-- ==== Sys2Proof/Word.lean ====
section
/-! DEFINITION. The octet of the host port and the peer line, the two plants of the complex, and records of one value per
plant (heat, cool) and one value per tariff band (0 to 3). -/

namespace Sys2Proof

/-- An octet of the host port or of the peer line. -/
abbrev Octet := BitVec 8

/-- The two plants, and with them the station's two circuits HEAT and COOL (00_scope.md section 6). -/
inductive Plant where
  | heat
  | cool
  deriving DecidableEq, Repr

/-- One value per plant. -/
structure PerPlant (α : Type) where
  heat : α
  cool : α
  deriving DecidableEq, Repr

/-- The value of one plant. -/
def PerPlant.get {α : Type} (x : PerPlant α) : Plant → α
  | .heat => x.heat
  | .cool => x.cool

/-- The same value for both plants. -/
def PerPlant.both {α : Type} (a : α) : PerPlant α := { heat := a, cool := a }

/-- Each plant's value changed by `f`. -/
def PerPlant.map {α β : Type} (f : α → β) (x : PerPlant α) : PerPlant β :=
  { heat := f x.heat, cool := f x.cool }

/-- The two plants' values combined plant by plant. -/
def PerPlant.zip {α β γ : Type} (f : α → β → γ) (x : PerPlant α) (y : PerPlant β) : PerPlant γ :=
  { heat := f x.heat y.heat, cool := f x.cool y.cool }

/-- One value per tariff band. -/
structure PerBand (α : Type) where
  band0 : α
  band1 : α
  band2 : α
  band3 : α
  deriving DecidableEq, Repr

/-- The same value for the four bands. -/
def PerBand.all {α : Type} (a : α) : PerBand α := { band0 := a, band1 := a, band2 := a, band3 := a }

/-- The value of one band; a band number above 3 reads band 3 (bands are two bits wide, so none occurs). -/
def PerBand.get {α : Type} (x : PerBand α) : Nat → α
  | 0 => x.band0
  | 1 => x.band1
  | 2 => x.band2
  | _ => x.band3

/-- One band's value changed by `f`, the other three kept. -/
def PerBand.modify {α : Type} (f : α → α) (x : PerBand α) : Nat → PerBand α
  | 0 => { x with band0 := f x.band0 }
  | 1 => { x with band1 := f x.band1 }
  | 2 => { x with band2 := f x.band2 }
  | _ => { x with band3 := f x.band3 }

/-- The four bands' values combined band by band. -/
def PerBand.zip {α β γ : Type} (f : α → β → γ) (x : PerBand α) (y : PerBand β) : PerBand γ :=
  { band0 := f x.band0 y.band0, band1 := f x.band1 y.band1, band2 := f x.band2 y.band2, band3 := f x.band3 y.band3 }

/-- The four bands' values in order, band 0 first. -/
def PerBand.toList {α : Type} (x : PerBand α) : List α := [x.band0, x.band1, x.band2, x.band3]

end Sys2Proof
end

