-- ==== Sys2Proof/Syntax.lean ====
section
/-! DEFINITION. The commands of the block: one constructor per row of spec/opcode_table.json, with the operands the
spec's text gives the row. -/

namespace Sys2Proof

/-- What one sensor channel delivers to the converter at the end of a cycle (R5): a converted value, or a sensor found
open-circuit or short-circuited. The value that stands with an open or shorted sensor is "not meaningful" (R5): it is
whatever the outside delivers, and nothing constrains it. -/
inductive Sensor where
  | converted (value : BitVec 16)
  | openCircuit (value : BitVec 16)
  | shortCircuit (value : BitVec 16)
  deriving DecidableEq, Repr

/-- The commands. A host command is the taking of its transaction's last argument octet (R181), with the argument
octets of R196 and R197 as operands; every other command is the occurrence of the event its row names. -/
inductive Instr where
  /-- WRITE_ITEM (R176): item code, four-octet value. -/
  | writeItem (code : Octet) (value : BitVec 32)
  /-- HOLIDAY_ADD (R37): WRITE ITEM of item 0x20. -/
  | holidayAdd (value : BitVec 32)
  /-- HOLIDAY_CLEAR (R37): WRITE ITEM of item 0x21. -/
  | holidayClear (value : BitVec 32)
  /-- READ_ITEM (R178). -/
  | readItem (code : Octet)
  /-- SET_CLOCK (R23): day number, second-of-day. -/
  | setClock (day : BitVec 16) (second : BitVec 24)
  /-- TRIM_CLOCK (R33): seconds, in two's complement. -/
  | trimClock (seconds : BitVec 8)
  /-- COMMISSION (R167). -/
  | commission
  /-- QUIET (R169). -/
  | quiet
  /-- SPEAK (R171). -/
  | speak
  /-- SNAPSHOT (R98). -/
  | snapshot
  /-- FETCH_RECORD (R104). -/
  | fetchRecord
  /-- RELEASE_RECORD (R104). -/
  | releaseRecord
  /-- CLEAR_QUEUE (R105). -/
  | clearQueue
  /-- READ_STATUS (R185). -/
  | readStatus
  /-- READ_CAUSE (R188). -/
  | readCause
  /-- SET_ENABLES (R189): enables word, master-enable octet, interrupt-mode octet. -/
  | setEnables (enables : BitVec 16) (master : Octet) (mode : Octet)
  /-- READ_WINDOW (R66): window selector. -/
  | readWindow (selector : Octet)
  /-- READ_PEER (R163): peer address. -/
  | readPeer (address : Octet)
  /-- READ_TOTALS (R21). -/
  | readTotals
  /-- READ_LINE (R150). -/
  | readLine
  /-- CLEAR_FAILURE (R144). -/
  | clearFailure
  /-- RESTART_LINE (R147). -/
  | restartLine
  /-- RESET_CONVERTER (R7). -/
  | resetConverter
  /-- LINE_TEST_MODE (R148): mode octet. -/
  | lineTestMode (mode : Octet)
  /-- SEND_TEST (R149). -/
  | sendTest
  /-- RESET (R179). -/
  | reset
  /-- UNKNOWN_COMMAND (R183): the command octet, which names no command. -/
  | unknownCommand (octet : Octet)
  /-- SSN_FALLING (R181). -/
  | ssnFalling
  /-- SSN_RISING (R181). -/
  | ssnRising
  /-- RSTN_FALLING (R179). -/
  | rstnFalling
  /-- RSTN_RISING (R179). -/
  | rstnRising
  /-- FLOW_PULSE (R3): a low-to-high transition of HFLOW (heat) or CFLOW (cool). -/
  | flowPulse (circuit : Plant)
  /-- PFAILN_FALLING (R173). -/
  | pfailnFalling
  /-- PFAILN_RISING (R173). -/
  | pfailnRising
  /-- RECOVERY_END (R173). -/
  | recoveryEnd
  /-- COUNTED_SECOND_END (R25). -/
  | countedSecondEnd
  /-- SLEW_STEP (R34). -/
  | slewStep
  /-- CYCLE_EVENT (R27), with what the four sensors delivered over the cycle (R5). -/
  | cycleEvent (hs hr cs cr : Sensor)
  /-- CONVERTER_RESTART_END (R6). -/
  | converterRestartEnd
  /-- WINDOW_BOUNDARY (R28). -/
  | windowBoundary
  /-- DAY_BOUNDARY (R29). -/
  | dayBoundary
  /-- GRACE_EXPIRY (R30). -/
  | graceExpiry
  /-- IDLE_GAP (R112). -/
  | idleGap
  /-- LINE_OCTET_RECEIVED (R116): the octet of the character, and whether its stop bit was at mark. -/
  | lineOctetReceived (octet : Octet) (stopBit : Bool)
  /-- FRAME_RECEIVED (R121). -/
  | frameReceived
  /-- BACKOFF_EXPIRY (R137). -/
  | backoffExpiry
  /-- TX_COLLISION (R141). -/
  | txCollision
  /-- TX_SUCCESS (R142). -/
  | txSuccess
  /-- LINE_STUCK (R143). -/
  | lineStuck
  /-- IRQN_PULSE_END (R191). -/
  | irqnPulseEnd
  /-- START_BIT (R138). -/
  | startBit
  deriving DecidableEq, Repr

end Sys2Proof
end

