-- ==== Sys2Proof/Decode.lean ====
section
/-! DEFINITION. The host port's octets (R181, R196, R197): which command a transaction's octets spell, and the octets of a
command. The opcode table gives its rows no bits, so no word spells a row. -/

namespace Sys2Proof

/-- The command a word spells by the table's bits. spec/opcode_table.json gives none of its 51 rows any bits, so no word
spells one (log entry 25). -/
def decodeTableWord (_nbits _w : Nat) : Option Instr := none

/-- R196: the number of argument octets a command octet carries, or `none` where the octet names no command. -/
def argumentOctets (code : Octet) : Option Nat :=
  match code.toNat with
  | 0x01 => some 0  -- READ STATUS
  | 0x02 => some 0  -- READ CAUSE
  | 0x03 => some 4  -- SET ENABLES
  | 0x04 => some 1  -- READ ITEM
  | 0x05 => some 5  -- WRITE ITEM
  | 0x06 => some 5  -- SET CLOCK
  | 0x07 => some 1  -- TRIM CLOCK
  | 0x08 => some 0  -- COMMISSION
  | 0x09 => some 0  -- QUIET
  | 0x0A => some 0  -- SPEAK
  | 0x0B => some 0  -- SNAPSHOT
  | 0x0C => some 0  -- FETCH RECORD
  | 0x0D => some 0  -- RELEASE RECORD
  | 0x0E => some 0  -- CLEAR QUEUE
  | 0x0F => some 1  -- READ WINDOW
  | 0x10 => some 1  -- READ PEER
  | 0x11 => some 0  -- READ TOTALS
  | 0x12 => some 0  -- READ LINE
  | 0x13 => some 0  -- CLEAR FAILURE
  | 0x14 => some 0  -- RESTART LINE
  | 0x15 => some 0  -- RESET CONVERTER
  | 0x16 => some 1  -- LINE TEST MODE
  | 0x17 => some 0  -- SEND TEST
  | 0xA5 => some 0  -- RESET
  | _ => none

/-- R196: whether a command octet names a command. -/
def namesCommand (code : Octet) : Bool := (argumentOctets code).isSome

/-- The item code of HOLIDAY_ADD (R197). -/
def holidayAddCode : Octet := 0x20

/-- The item code of HOLIDAY_CLEAR (R197). -/
def holidayClearCode : Octet := 0x21

/-- Two octets as a 16-bit field, the most significant first (R193). -/
def joinOctets2 (a b : Octet) : BitVec 16 := a ++ b

/-- Three octets as a 24-bit field, the most significant first (R193). -/
def joinOctets3 (a b c : Octet) : BitVec 24 := a ++ b ++ c

/-- Four octets as a 32-bit field, the most significant first (R193). -/
def joinOctets4 (a b c d : Octet) : BitVec 32 := a ++ b ++ c ++ d

/-- R197: the command a WRITE ITEM transaction is; the two Holiday List items have rows of their own. -/
def decodeWriteItem (code : Octet) (value : BitVec 32) : Instr :=
  if code = holidayAddCode then .holidayAdd value
  else if code = holidayClearCode then .holidayClear value
  else .writeItem code value

/-- R181, R196: the command that exactly these octets of a transaction take, or `none` while no command is taken. A
command octet that names no command is taken alone. -/
def decodeTransaction (octets : List Octet) : Option Instr :=
  match octets with
  | [] => none
  | code :: arguments =>
    match code.toNat, arguments with
    | 0x01, [] => some .readStatus
    | 0x02, [] => some .readCause
    | 0x03, [e1, e0, master, mode] => some (.setEnables (joinOctets2 e1 e0) master mode)
    | 0x04, [item] => some (.readItem item)
    | 0x05, [item, v3, v2, v1, v0] => some (decodeWriteItem item (joinOctets4 v3 v2 v1 v0))
    | 0x06, [d1, d0, s2, s1, s0] => some (.setClock (joinOctets2 d1 d0) (joinOctets3 s2 s1 s0))
    | 0x07, [seconds] => some (.trimClock seconds)
    | 0x08, [] => some .commission
    | 0x09, [] => some .quiet
    | 0x0A, [] => some .speak
    | 0x0B, [] => some .snapshot
    | 0x0C, [] => some .fetchRecord
    | 0x0D, [] => some .releaseRecord
    | 0x0E, [] => some .clearQueue
    | 0x0F, [selector] => some (.readWindow selector)
    | 0x10, [address] => some (.readPeer address)
    | 0x11, [] => some .readTotals
    | 0x12, [] => some .readLine
    | 0x13, [] => some .clearFailure
    | 0x14, [] => some .restartLine
    | 0x15, [] => some .resetConverter
    | 0x16, [mode] => some (.lineTestMode mode)
    | 0x17, [] => some .sendTest
    | 0xA5, [] => some .reset
    | _, [] => if namesCommand code then none else some (.unknownCommand code)
    | _, _ => none

/-- The octets of a 16-bit field, the most significant first (R193). -/
def splitOctets2 (v : BitVec 16) : List Octet := [v.extractLsb' 8 8, v.extractLsb' 0 8]

/-- The octets of a 24-bit field, the most significant first (R193). -/
def splitOctets3 (v : BitVec 24) : List Octet := [v.extractLsb' 16 8, v.extractLsb' 8 8, v.extractLsb' 0 8]

/-- The octets of a 32-bit field, the most significant first (R193). -/
def splitOctets4 (v : BitVec 32) : List Octet :=
  [v.extractLsb' 24 8, v.extractLsb' 16 8, v.extractLsb' 8 8, v.extractLsb' 0 8]

/-- R196: the octets with which the host spells a command, or `none` for a command that is no host command. -/
def encodeTransaction (c : Instr) : Option (List Octet) :=
  match c with
  | .readStatus => some [0x01]
  | .readCause => some [0x02]
  | .setEnables enables master mode => some (0x03 :: splitOctets2 enables ++ [master, mode])
  | .readItem code => some [0x04, code]
  | .writeItem code value => some (0x05 :: code :: splitOctets4 value)
  | .holidayAdd value => some (0x05 :: holidayAddCode :: splitOctets4 value)
  | .holidayClear value => some (0x05 :: holidayClearCode :: splitOctets4 value)
  | .setClock day second => some (0x06 :: splitOctets2 day ++ splitOctets3 second)
  | .trimClock seconds => some [0x07, seconds]
  | .commission => some [0x08]
  | .quiet => some [0x09]
  | .speak => some [0x0A]
  | .snapshot => some [0x0B]
  | .fetchRecord => some [0x0C]
  | .releaseRecord => some [0x0D]
  | .clearQueue => some [0x0E]
  | .readWindow selector => some [0x0F, selector]
  | .readPeer address => some [0x10, address]
  | .readTotals => some [0x11]
  | .readLine => some [0x12]
  | .clearFailure => some [0x13]
  | .restartLine => some [0x14]
  | .resetConverter => some [0x15]
  | .lineTestMode mode => some [0x16, mode]
  | .sendTest => some [0x17]
  | .reset => some [0xA5]
  | .unknownCommand octet => some [octet]
  | .ssnFalling | .ssnRising | .rstnFalling | .rstnRising | .flowPulse _ | .pfailnFalling | .pfailnRising
  | .recoveryEnd | .countedSecondEnd | .slewStep | .cycleEvent _ _ _ _ | .converterRestartEnd | .windowBoundary
  | .dayBoundary | .graceExpiry | .idleGap | .lineOctetReceived _ _ | .frameReceived | .backoffExpiry
  | .txCollision | .txSuccess | .lineStuck | .irqnPulseEnd | .startBit => none

end Sys2Proof
end

