-- ==== Sys2Proof/Machine/State.lean ====
section
/-! DEFINITION. The state of the Zeptal 410 as plain data, block by block (00_scope.md section 3), and its value right
after a full reset (R180). Quantities the spec counts are natural numbers or integers; the rule that changes one says
whether it saturates or wraps. Marks in the docstrings name the assumption log entry of a value the spec does not give. -/

namespace Sys2Proof.Machine

/-- What stops the machine. The spec describes nothing that does. -/
inductive Fault where
  /-- Raised by UNKNOWN_COMMAND on an octet that does name a command: the term is no command of the table. Safe: the
  host cannot send it (log entry 23). -/
  | illFormedCommand (octet : Octet)
  deriving DecidableEq, Repr

/-- Commands without a meaning. -/
inductive Refusal where
  /-- A row of the table that has no meaning yet. No arm of `exec` answers it. Safe. -/
  | notModelled (mnemonic : String)
  deriving DecidableEq, Repr

/-! ### Configuration items (R177) and the Tariff Calendar (R36, R37) -/

/-- ROLE. -/
inductive Role where
  | tenant
  | common
  deriving DecidableEq, Repr

/-- CIRCUITS. -/
inductive CircuitsItem where
  | heat
  | cool
  | both
  deriving DecidableEq, Repr

/-- WINDOW_LENGTH, in minutes. -/
inductive WindowLength where
  | min5
  | min10
  | min15
  | min30
  deriving DecidableEq, Repr

/-- LINE_RATE, in baud. -/
inductive LineRate where
  | b9600
  | b19200
  | b38400
  | b76800
  deriving DecidableEq, Repr

/-- The configuration items other than the Tariff Calendar's (R177); `none` is an unset item. -/
structure Items where
  stationAddress : Option Nat
  role : Option Role
  expected : Nat
  weight : Nat
  circuits : CircuitsItem
  pulse : PerPlant Nat
  dtCutoff : Nat
  windowLength : Option WindowLength
  grace : Nat
  lineRate : LineRate
  skewLimit : Nat
  queueAlertLevel : Nat
  rate : PerPlant (PerBand Nat)
  deriving DecidableEq, Repr

/-- The defaults of R177. -/
def Items.reset : Items :=
  { stationAddress := none, role := none, expected := 1, weight := 0, circuits := .both, pulse := .both 100,
    dtCutoff := 20, windowLength := none, grace := 120, lineRate := .b19200, skewLimit := 10, queueAlertLevel := 2,
    rate := .both (.all 0) }

/-- The six 16-bit items of one slot map (R36), item n holding slots 8n to 8n + 7. -/
structure SlotMap where
  item0 : BitVec 16
  item1 : BitVec 16
  item2 : BitVec 16
  item3 : BitVec 16
  item4 : BitVec 16
  item5 : BitVec 16
  deriving DecidableEq, Repr

/-- The Tariff Calendar's state (R36, R37). -/
structure Calendar where
  weekday : SlotMap
  weekend : SlotMap
  epochWeekday : Nat
  holidays : List Nat
  deriving DecidableEq, Repr

/-- R36, R37: band 0 in every slot, epoch weekday 0, no holiday. -/
def Calendar.reset : Calendar :=
  { weekday := ⟨0, 0, 0, 0, 0, 0⟩, weekend := ⟨0, 0, 0, 0, 0, 0⟩, epochWeekday := 0, holidays := [] }

/-! ### Station Controller (R164) -/

inductive StationState where
  | unconfigured
  | joining
  | running
  | quieting
  | quiet
  deriving DecidableEq, Repr

inductive SupplyMode where
  | mains
  | backup
  | recovering
  deriving DecidableEq, Repr

/-- The skew status; `noSkew` is the spec's NONE. -/
inductive SkewStatus where
  | noSkew
  | behind
  | ahead
  deriving DecidableEq, Repr

structure Station where
  state : StationState
  commissioned : Bool
  supplyMode : SupplyMode
  recoveryCount : Nat
  digest : Nat
  skew : SkewStatus
  deriving DecidableEq, Repr

/-- R164, with the supply mode that PFAILN high gives. -/
def Station.reset : Station :=
  { state := .unconfigured, commissioned := false, supplyMode := .mains, recoveryCount := 0, digest := 0,
    skew := .noSkew }

/-! ### Timebase (R22) -/

/-- R25: the length of a counted second: 1, 7/8 or 9/8 nominal second. -/
inductive SecondLength where
  | nominal
  | shortened
  | lengthened
  deriving DecidableEq, Repr

/-- The events the Timebase has issued at the end of a counted second and that their rows have not yet taken (log
entry 2). The model's own marks. -/
structure Due where
  slewStep : Bool
  cycleEvent : Bool
  windowBoundary : Bool
  dayBoundary : Bool
  graceExpiry : Bool
  deriving DecidableEq, Repr

/-- Nothing issued. -/
def Due.reset : Due :=
  { slewStep := false, cycleEvent := false, windowBoundary := false, dayBoundary := false, graceExpiry := false }

structure Timebase where
  clockValid : Bool
  secondOfDay : Nat
  day : Nat
  /-- Nominal time run of the counted second in progress, in units of 1/7680 s (one character time at 76800 baud). -/
  secondFraction : Nat
  secondLength : SecondLength
  cyclePhase : Nat
  secondsInWindow : Nat
  windowInDay : Nat
  graceArmed : Bool
  slewRemaining : Int
  slewCount : Nat
  boundaryOn : Bool
  due : Due
  deriving DecidableEq, Repr

/-- R22, "After full reset". -/
def Timebase.reset : Timebase :=
  { clockValid := false, secondOfDay := 0, day := 0, secondFraction := 0, secondLength := .nominal, cyclePhase := 0,
    secondsInWindow := 0, windowInDay := 0, graceArmed := false, slewRemaining := 0, slewCount := 0,
    boundaryOn := false, due := .reset }

/-! ### Circuit Meters (R1) and Temperature Converter (R2) -/

inductive CircuitState where
  | absent
  | normal
  | holding
  | fault
  deriving DecidableEq, Repr

structure CircuitMeter where
  state : CircuitState
  heldSupply : Int
  heldReturn : Int
  supplyValid : Bool
  returnValid : Bool
  holdCount : Nat
  goodRun : Nat
  residue : Nat
  pulseCounter : Nat
  latched : Nat
  lifetimeEnergy : Nat
  lifetimeVolume : Nat
  deriving DecidableEq, Repr

/-- R1, "After full reset". -/
def CircuitMeter.reset : CircuitMeter :=
  { state := .absent, heldSupply := 0, heldReturn := 0, supplyValid := false, returnValid := false, holdCount := 0,
    goodRun := 0, residue := 0, pulseCounter := 0, latched := 0, lifetimeEnergy := 0, lifetimeVolume := 0 }

inductive ConverterState where
  | running
  | restarting
  deriving DecidableEq, Repr

/-- The status of a reading (R5); `noReading` is the spec's NONE. -/
inductive ReadingStatus where
  | valid
  | range
  | openCircuit
  | shortCircuit
  | noReading
  deriving DecidableEq, Repr

structure Reading where
  value : Int
  status : ReadingStatus
  deriving DecidableEq, Repr

structure Converter where
  state : ConverterState
  restartCount : Nat
  backupCount : Nat
  hs : Reading
  hr : Reading
  cs : Reading
  cr : Reading
  deriving DecidableEq, Repr

/-- R2, after a full reset. -/
def Converter.reset : Converter :=
  { state := .running, restartCount := 0, backupCount := 0, hs := ⟨0, .noReading⟩, hr := ⟨0, .noReading⟩,
    cs := ⟨0, .noReading⟩, cr := ⟨0, .noReading⟩ }

/-! ### Window Table (R40 to R43) -/

/-- R41: a plant's own flags in a window entry. -/
structure OwnFlags where
  estimated : Bool
  faulted : Bool
  backup : Bool
  partialWindow : Bool
  overrange : Bool
  deriving DecidableEq, Repr

/-- No flag set. -/
def OwnFlags.clear : OwnFlags :=
  { estimated := false, faulted := false, backup := false, partialWindow := false, overrange := false }

/-- R41: a window entry's own part for one plant. -/
structure OwnPart where
  energy : Nat
  metered : Nat
  unmetered : Nat
  demand : Nat
  flags : OwnFlags
  deriving DecidableEq, Repr

/-- A fresh own part. -/
def OwnPart.fresh : OwnPart := { energy := 0, metered := 0, unmetered := 0, demand := 0, flags := .clear }

/-- R43; `undecided` is the spec's NONE. -/
inductive ReportStatus where
  | undecided
  | pending
  | sent
  | stale
  | suppressed
  | discarded
  deriving DecidableEq, Repr

/-- R42: a window entry's peer sums for one plant. -/
structure PeerSums where
  demand : Nat
  energy : Nat
  common : Nat
  deriving DecidableEq, Repr

/-- One window entry (R41, R42). Its role is the place it stands in. The contributor set is kept ascending, so that equal
sets are equal data (log entry 27). -/
structure WindowEntry where
  index : Nat
  own : PerPlant OwnPart
  reverseCount : Nat
  reportStatus : ReportStatus
  contributors : List Nat
  weightSum : Nat
  sums : PerPlant PeerSums
  estimatedContributors : Nat
  deriving DecidableEq, Repr

/-- R44, R50: a fresh entry with every own and peer field at 0. -/
def WindowEntry.fresh (index : Nat) : WindowEntry :=
  { index := index, own := .both .fresh, reverseCount := 0, reportStatus := .undecided, contributors := [],
    weightSum := 0, sums := .both ⟨0, 0, 0⟩, estimatedContributors := 0 }

/-- R40, R65: the closed-report record. -/
structure ClosedReport where
  index : Nat
  status : ReportStatus
  deriving DecidableEq, Repr

structure WindowTable where
  graceEntry : Option WindowEntry
  openEntry : Option WindowEntry
  aheadEntry : Option WindowEntry
  closedReport : Option ClosedReport
  deriving DecidableEq, Repr

/-- R45: all places empty, the record absent. -/
def WindowTable.reset : WindowTable :=
  { graceEntry := none, openEntry := none, aheadEntry := none, closedReport := none }

/-! ### Period Contexts (R89) and Settlement Records (R94) -/

/-- R71: a present peak record. -/
structure Peak where
  index : Nat
  complexDemand : Nat
  ownDemand : Nat
  contributors : Nat
  sharePpm : Nat
  deriving DecidableEq, Repr

/-- R77 to R79: the nine window counts. -/
structure WindowCounts where
  closed : Nat
  complete : Nat
  estimated : Nat
  faulted : Nat
  backup : Nat
  partialWindows : Nat
  unapportioned : Nat
  contributorsHeard : Nat
  estimatedContributors : Nat
  deriving DecidableEq, Repr

/-- R55: the three disposition counts. -/
structure DispositionCounts where
  late : Nat
  duplicate : Nat
  farAhead : Nat
  deriving DecidableEq, Repr

/-- The figures a Period Context accumulates and a Settlement Record carries (R89, R94). -/
structure Figures where
  energy : PerPlant (PerBand Nat)
  commonShare : PerPlant (PerBand Nat)
  complexEnergy : PerPlant Nat
  peak : PerPlant (Option Peak)
  unmetered : Nat
  reverseCount : Nat
  counts : WindowCounts
  dispositions : DispositionCounts
  addressClashes : Nat
  deriving DecidableEq, Repr

/-- R90, R91: every figure 0, both peaks absent. -/
def Figures.fresh : Figures :=
  { energy := .both (.all 0), commonShare := .both (.all 0), complexEnergy := .both 0, peak := .both none,
    unmetered := 0, reverseCount := 0, counts := ⟨0, 0, 0, 0, 0, 0, 0, 0, 0⟩, dispositions := ⟨0, 0, 0⟩,
    addressClashes := 0 }

/-- The four receive error counters of R110, and the snapshot of them (R91). -/
structure RxErrors where
  framing : Nat
  stray : Nat
  length : Nat
  crc : Nat
  deriving DecidableEq, Repr

/-- One Period Context (R89). -/
structure PeriodContext where
  day : Nat
  partialDay : Bool
  saturated : Bool
  figures : Figures
  rxSnapshot : Option RxErrors
  deriving DecidableEq, Repr

structure Contexts where
  current : Option PeriodContext
  closing : Option PeriodContext
  deriving DecidableEq, Repr

/-- R90: no context. -/
def Contexts.reset : Contexts := { current := none, closing := none }

inductive RecordKind where
  | finalRecord
  | interim
  | merged
  deriving DecidableEq, Repr

/-- One Settlement Record (R94). -/
structure Record where
  kind : RecordKind
  address : Nat
  role : Option Role
  firstDay : Nat
  lastDay : Nat
  mergedCount : Nat
  partialDay : Bool
  saturated : Bool
  figures : Figures
  rxErrors : RxErrors
  energyCost : PerPlant Nat
  commonCost : PerPlant Nat
  deriving DecidableEq, Repr

/-- R100, R105: the Record Queue, oldest record first, its overflow slot and its discarded-records counter. -/
structure RecordQueue where
  queue : List Record
  overflow : Option Record
  discarded : Nat
  deriving DecidableEq, Repr

/-- R100, R105, after a full reset. -/
def RecordQueue.reset : RecordQueue := { queue := [], overflow := none, discarded := 0 }

/-! ### Peer line: frames, receiver (R110), transmitter (R131) -/

/-- R122, R194: the four quality flags of one plant. -/
structure Quality where
  estimated : Bool
  faulted : Bool
  backup : Bool
  partialWindow : Bool
  deriving DecidableEq, Repr

/-- R122: the fields of a Window Report. -/
structure WindowReport where
  sender : Nat
  roleCode : Octet
  day : Nat
  windowInDay : Nat
  demand : PerPlant Nat
  energy : PerPlant Nat
  weight : Nat
  digest : Nat
  second : Nat
  quality : PerPlant Quality
  deriving DecidableEq, Repr

/-- The announced state of a Presence Notice (R123). -/
inductive NoticeState where
  | joining
  | running
  | quiet
  deriving DecidableEq, Repr

/-- R123: the fields of a Presence Notice. -/
structure PresenceNotice where
  sender : Nat
  roleCode : Octet
  announced : NoticeState
  weight : Nat
  digest : Nat
  expected : Nat
  second : Nat
  deriving DecidableEq, Repr

inductive ParserState where
  | off
  | held
  | waitGap
  | afterFrame
  | ready
  | inFrame
  deriving DecidableEq, Repr

structure Receiver where
  parser : ParserState
  gapTimer : Nat
  /-- The octets taken since the lead octet, the lead octet first. -/
  frame : List Octet
  arrivalSecond : Nat
  errors : RxErrors
  ignored : Nat
  incompatible : Nat
  addressClashes : Nat
  testEchoes : Nat
  lastEcho : Option Nat
  /-- A start bit has been taken and its character has not completed (log entry 14). -/
  charInProgress : Bool
  /-- LRX was left at space by a character without its stop bit, and no row has told of a return to mark (R112, log
  entry 32). -/
  lrxAtSpace : Bool
  deriving DecidableEq, Repr

/-- R110, "After full reset". -/
def Receiver.reset : Receiver :=
  { parser := .off, gapTimer := 0, frame := [], arrivalSecond := 0, errors := ⟨0, 0, 0, 0⟩, ignored := 0,
    incompatible := 0, addressClashes := 0, testEchoes := 0, lastEcho := none, charInProgress := false,
    lrxAtSpace := false }

inductive TxState where
  | idle
  | waitIdle
  | backoff
  | sending
  deriving DecidableEq, Repr

/-- The two slots of the transmit queue (R132). -/
inductive Slot where
  | report
  | notice
  deriving DecidableEq, Repr

/-- What the report slot holds (R131). -/
inductive ReportContent where
  | windowReport (report : WindowReport)
  | lineTest (sequence : Nat)
  deriving DecidableEq, Repr

/-- An occupied report slot with the frame's attempt count, seed and marks (R131, R132). -/
structure ReportSlot where
  content : ReportContent
  attempts : Nat
  seed : Nat
  expired : Bool
  stuckReported : Bool
  deriving DecidableEq, Repr

/-- An occupied Presence Notice slot (R131, R132). -/
structure NoticeSlot where
  notice : PresenceNotice
  attempts : Nat
  seed : Nat
  stuckReported : Bool
  deriving DecidableEq, Repr

/-- R144; `noFailure` is the spec's NONE. -/
inductive TxFailure where
  | noFailure
  | collisionLimit
  | stale
  | lineStuck
  | abortedBySupply
  deriving DecidableEq, Repr

inductive LineTestMode where
  | off
  | internal
  | external
  deriving DecidableEq, Repr

/-- R140: how far the running attempt has been read back: that many octets as sent, or one that differed. -/
inductive ReadBack where
  | matched (octets : Nat)
  | differed
  deriving DecidableEq, Repr

structure Transmitter where
  state : TxState
  report : Option ReportSlot
  notice : Option NoticeSlot
  followOn : Option NoticeState
  /-- The slot of the current frame (R133). -/
  current : Option Slot
  backoffSlots : Nat
  /-- In units of 1/7680 s; 15360 is 2 nominal seconds. -/
  stuckTimer : Nat
  lastFailure : TxFailure
  framesSent : Nat
  collisions : Nat
  giveUps : Nat
  testMode : LineTestMode
  testSequence : Nat
  readBack : ReadBack
  deriving DecidableEq, Repr

/-- R131, "After full reset". -/
def Transmitter.reset : Transmitter :=
  { state := .idle, report := none, notice := none, followOn := none, current := none, backoffSlots := 0,
    stuckTimer := 0, lastFailure := .noFailure, framesSent := 0, collisions := 0, giveUps := 0, testMode := .off,
    testSequence := 0, readBack := .matched 0 }

/-! ### Peer Table (R151) -/

inductive PeerState where
  | present
  | quiet
  | silent
  | incompatible
  deriving DecidableEq, Repr

/-- The three fields of R151 that the first accepted report sets together. -/
structure Acceptance where
  lastWindow : Nat
  offset : Int
  offsetIndex : Nat
  deriving DecidableEq, Repr

/-- One Peer Entry (R151). -/
structure PeerEntry where
  address : Nat
  state : PeerState
  roleCode : Octet
  weight : Nat
  lastDigest : Nat
  announced : Option NoticeState
  announcedExpected : Option Nat
  acceptance : Option Acceptance
  missed : Nat
  accepted : Nat
  late : Nat
  duplicate : Nat
  farAhead : Nat
  deriving DecidableEq, Repr

/-! ### Cause Unit (R186) and host port (R181) -/

/-- The ten causes (R187), in order of priority. -/
inductive Cause where
  | addressClash
  | queueOverrun
  | sensorFault
  | clockSkew
  | txFailure
  | peerIncompatible
  | queueAlert
  | recordReady
  | supplyChange
  | flowOverrange
  deriving DecidableEq, Repr

/-- The status of a taken host command (R183). -/
inductive Status where
  | ok
  | clamped
  | notNow
  | badItem
  | badValue
  | empty
  | queueFull
  | incomplete
  | unknownCommand
  deriving DecidableEq, Repr

/-- The interrupt mode (R186). -/
inductive IrqMode where
  | level
  | pulse
  deriving DecidableEq, Repr

structure CauseUnit where
  /-- Bit n - 1 is the pending flag of cause number n. -/
  pending : BitVec 10
  /-- Bit n - 1 is the enable of cause number n. -/
  enables : BitVec 10
  master : Bool
  mode : IrqMode
  /-- A PULSE-mode assertion of IRQN is in progress (R191). -/
  pulse : Bool
  deriving DecidableEq, Repr

/-- R186, after a full reset. -/
def CauseUnit.reset : CauseUnit := { pending := 0, enables := 0, master := false, mode := .level, pulse := false }

/-- R181: the host port's transaction. `idle`: SSN is high. `opened`: SSN is low and no command has been taken. `taken`:
SSN is low and the command has been taken. `ignored`: SSN is low and the port waits for it to rise. -/
inductive PortPhase where
  | idle
  | opened
  | taken
  | ignored
  deriving DecidableEq, Repr

structure Port where
  phase : PortPhase
  /-- What the port shifts out after the taking: the status octet, then the response octets (R182). -/
  response : List Octet
  deriving DecidableEq, Repr

/-- SSN high, nothing to shift out (log entry 7). -/
def Port.reset : Port := { phase := .idle, response := [] }

/-! ### The whole state -/

/-- The station, the pins the outside drives, and the commands that wait. -/
structure State where
  rstnHigh : Bool
  pfailnHigh : Bool
  port : Port
  station : Station
  items : Items
  calendar : Calendar
  timebase : Timebase
  meters : PerPlant CircuitMeter
  converter : Converter
  windows : WindowTable
  contexts : Contexts
  records : RecordQueue
  receiver : Receiver
  transmitter : Transmitter
  /-- The Peer Table (R152), ascending in address (log entry 27). -/
  peers : List PeerEntry
  causes : CauseUnit
  /-- The model's own: how many free values have been drawn (log entry 8). -/
  freeCount : Nat
  /-- The commands that wait, the next one first. -/
  pending : List Instr
  deriving DecidableEq, Repr

/-- The station right after a full reset (R180), with RSTN, PFAILN and SSN high (log entry 7). -/
def State.reset : State :=
  { rstnHigh := true, pfailnHigh := true, port := .reset, station := .reset, items := .reset, calendar := .reset,
    timebase := .reset, meters := .both .reset, converter := .reset, windows := .reset, contexts := .reset,
    records := .reset, receiver := .reset, transmitter := .reset, peers := [], causes := .reset, freeCount := 0,
    pending := [] }

end Sys2Proof.Machine
end

