-- ==== Sys2Proof/Machine/Arith.lean ====
section
/-! DEFINITION. The arithmetic the rules share: saturating sums, octet fields, the CRC of R117, round half up, and the
modular window indices of R31 and R32. -/

namespace Sys2Proof.Machine

/-- The greatest value of an n-bit field (00_scope.md section 7, Widths). -/
def maxOf (bits : Nat) : Nat := 2 ^ bits - 1

/-- A sum that saturates at the greatest value of an n-bit field. -/
def satAdd (bits a b : Nat) : Nat := min (maxOf bits) (a + b)

/-- Whether a sum would exceed an n-bit field (R76). -/
def sumOver (bits a b : Nat) : Bool := decide (maxOf bits < a + b)

/-- One more, saturating at 65535 (the 16-bit counters). -/
def bump (n : Nat) : Nat := satAdd 16 n 1

/-- One more where `b` holds. -/
def bumpIf (b : Bool) (n : Nat) : Nat := if b then bump n else n

/-- round_half_up(x / y) is floor((x + y/2) / y) (00_scope.md section 7; R96). -/
def roundHalfUp (x y : Nat) : Nat := (x + y / 2) / y

/-- An integer clamped to a range. -/
def clampInt (low high x : Int) : Int := if x < low then low else if high < x then high else x

/-- A natural number clamped to a range. -/
def clampNat (low high x : Nat) : Nat := if x < low then low else if high < x then high else x

/-! ### Octets (R193) -/

/-- A number as `n` octets, the most significant first. -/
def octets : Nat → Nat → List Octet
  | 0, _ => []
  | n + 1, v => BitVec.ofNat 8 (v / 256 ^ n) :: octets n v

/-- A signed number as `n` octets in two's complement, the most significant first. -/
def signedOctets (n : Nat) (v : Int) : List Octet := octets n (v % (256 ^ n : Nat)).toNat

/-- The number that octets spell, the most significant first. -/
def ofOctets (l : List Octet) : Nat := l.foldl (fun a b => a * 256 + b.toNat) 0

/-- The field of `len` octets at `offset`. -/
def fieldAt (l : List Octet) (offset len : Nat) : Nat := ofOctets ((l.drop offset).take len)

/-- The octet at `offset`, 0 past the end. -/
def octetAt (l : List Octet) (offset : Nat) : Octet := (l[offset]?).getD 0

/-- A mark octet (R193). -/
def markOctet (b : Bool) : Octet := if b then 1 else 0

/-- `n` octets of 0x00. -/
def zeros (n : Nat) : List Octet := List.replicate n 0

/-! ### The CRC of R117: generator 0x1021, initial value 0xFFFF, most significant bit first -/

/-- One bit shifted out of the CRC register. -/
def crcShift (c : BitVec 16) : BitVec 16 := if c.msb then (c <<< 1) ^^^ 0x1021#16 else c <<< 1

/-- One octet fed to the CRC register. -/
def crcOctet (c : BitVec 16) (b : Octet) : BitVec 16 :=
  crcShift (crcShift (crcShift (crcShift (crcShift (crcShift (crcShift (crcShift (c ^^^ (b ++ 0#8)))))))))

/-- The CRC over a list of octets. -/
def crc16 (l : List Octet) : BitVec 16 := l.foldl crcOctet 0xFFFF#16

/-! ### Window lengths and global indices (R26, R31, R32) -/

/-- L in minutes. -/
def WindowLength.minutes : WindowLength → Nat
  | .min5 => 5
  | .min10 => 10
  | .min15 => 15
  | .min30 => 30

/-- T = L × 60, in counted seconds (R26). -/
def WindowLength.seconds (l : WindowLength) : Nat := l.minutes * 60

/-- Windows per day. -/
def WindowLength.perDay (l : WindowLength) : Nat := 1440 / l.minutes

/-- The modulus of the global indices: 65536 × wpd (R32). -/
def WindowLength.modulus (l : WindowLength) : Nat := 65536 * l.perDay

/-- WINDOW_LENGTH as the blocks read it. COMMISSION requires the item to be set (R166), so the value for an unset item is
never used by a commissioned station (log entry 20). -/
def Items.length (i : Items) : WindowLength := i.windowLength.getD .min15

/-- STATION_ADDRESS as the blocks read it; set in every commissioned station (log entry 20). -/
def Items.address (i : Items) : Nat := i.stationAddress.getD 0

/-- R31: the global index of a window. -/
def globalIndex (l : WindowLength) (day window : Nat) : Nat := (day * l.perDay + window) % l.modulus

/-- R32: "window W + k". -/
def indexAfter (l : WindowLength) (w k : Nat) : Nat := (w + k) % l.modulus

/-- R32: the difference x - y modulo M, read as a signed value in -(M / 2) .. M / 2 - 1. -/
def indexDifference (l : WindowLength) (x y : Nat) : Int :=
  let m : Int := l.modulus
  ((x : Int) - y + m / 2) % m - m / 2

/-- R111: one character time at the line rate, in units of 1/7680 s. -/
def LineRate.characterTime : LineRate → Nat
  | .b9600 => 8
  | .b19200 => 4
  | .b38400 => 2
  | .b76800 => 1

/-- R111: the rate in baud. -/
def LineRate.baud : LineRate → Nat
  | .b9600 => 9600
  | .b19200 => 19200
  | .b38400 => 38400
  | .b76800 => 76800

/-- R25: the length of a counted second, in units of 1/7680 s. -/
def SecondLength.units : SecondLength → Nat
  | .nominal => 7680
  | .shortened => 6720
  | .lengthened => 8640

/-- R25: the length of a counted second that begins with this slew remaining. -/
def lengthForSlew (slew : Int) : SecondLength :=
  if slew = 0 then .nominal else if 0 < slew then .shortened else .lengthened

/-- An address or day number inserted at its ascending place, left out if it is already there (R37, R42). -/
def insertAscending (x : Nat) : List Nat → List Nat
  | [] => [x]
  | y :: ys => if x < y then x :: y :: ys else if x = y then y :: ys else y :: insertAscending x ys

end Sys2Proof.Machine
end

