-- ==== Sys2Proof/Machine/Flags.lean ====
section
/-! DEFINITION. Every flag computation of the spec: the own flags of a window entry and their octet (R41, R193), the
quality flags of a Window Report and their octet (R47, R194), the record flags (R195) and the cause word (R187). -/

namespace Sys2Proof.Machine

/-- A flag once set stays set (R20): the union of two sets of own flags. -/
def OwnFlags.union (a b : OwnFlags) : OwnFlags :=
  { estimated := a.estimated || b.estimated, faulted := a.faulted || b.faulted, backup := a.backup || b.backup,
    partialWindow := a.partialWindow || b.partialWindow, overrange := a.overrange || b.overrange }

/-- Bit `n` of an octet. -/
def flagBit (b : Bool) (n : Nat) : Nat := if b then 2 ^ n else 0

/-- R193: the per-plant own-flag octet. -/
def OwnFlags.octet (f : OwnFlags) : Octet :=
  BitVec.ofNat 8 (flagBit f.estimated 0 + flagBit f.faulted 1 + flagBit f.backup 2 + flagBit f.partialWindow 3
    + flagBit f.overrange 4)

/-- R47: the quality flags a report carries of a plant's own flags; OVERRANGE is not carried. -/
def OwnFlags.quality (f : OwnFlags) : Quality :=
  { estimated := f.estimated, faulted := f.faulted, backup := f.backup, partialWindow := f.partialWindow }

/-- The four quality bits of one plant (R194). -/
def Quality.nibble (q : Quality) : Nat :=
  flagBit q.estimated 0 + flagBit q.faulted 1 + flagBit q.backup 2 + flagBit q.partialWindow 3

/-- R194: the quality octet, heat in bits 0 to 3, cool in bits 4 to 7. -/
def qualityOctet (q : PerPlant Quality) : Octet := BitVec.ofNat 8 (q.heat.nibble + 16 * q.cool.nibble)

/-- R194: the quality flags an octet carries. -/
def qualityOfOctet (o : Octet) : PerPlant Quality :=
  { heat := { estimated := o.getLsbD 0, faulted := o.getLsbD 1, backup := o.getLsbD 2, partialWindow := o.getLsbD 3 },
    cool := { estimated := o.getLsbD 4, faulted := o.getLsbD 5, backup := o.getLsbD 6, partialWindow := o.getLsbD 7 } }

/-- R54: ESTIMATED or FAULT set for either plant. -/
def reportIsEstimated (q : PerPlant Quality) : Bool :=
  q.heat.estimated || q.heat.faulted || q.cool.estimated || q.cool.faulted

/-- R77: a flag set for either plant. -/
def eitherPlant (own : PerPlant OwnPart) (flag : OwnFlags → Bool) : Bool :=
  flag own.heat.flags || flag own.cool.flags

/-- R195: the record flags octet. -/
def recordFlagsOctet (partialDay saturated : Bool) : Octet :=
  BitVec.ofNat 8 (flagBit partialDay 0 + flagBit saturated 1)

/-- R187: the number READ CAUSE gives each cause. -/
def Cause.number : Cause → Nat
  | .addressClash => 1
  | .queueOverrun => 2
  | .sensorFault => 3
  | .clockSkew => 4
  | .txFailure => 5
  | .peerIncompatible => 6
  | .queueAlert => 7
  | .recordReady => 8
  | .supplyChange => 9
  | .flowOverrange => 10

/-- R187: the causes from the highest priority to the lowest. -/
def Cause.inPriority : List Cause :=
  [.addressClash, .queueOverrun, .sensorFault, .clockSkew, .txFailure, .peerIncompatible, .queueAlert, .recordReady,
    .supplyChange, .flowOverrange]

/-- A cause's flag in the ten pending flags or enables. -/
def Cause.mask (c : Cause) : BitVec 10 := 1#10 <<< (c.number - 1)

/-- Whether a cause's flag is set among ten. -/
def flagOf (flags : BitVec 10) (c : Cause) : Bool := (flags &&& c.mask) != 0#10

/-- R193: the cause word, cause number n in bit n - 1, bits 10 to 15 zero. -/
def causeWord (flags : BitVec 10) : List Octet := octets 2 flags.toNat

/-- R189: raising a cause sets its flag; in PULSE mode the flag going from clear to set with its enable and the master
enable on starts, or restarts, a pulse (R187, R191). -/
def CauseUnit.raise (c : Cause) (u : CauseUnit) : CauseUnit :=
  { u with
    pending := u.pending ||| c.mask
    pulse := u.pulse || (u.mode == .pulse && u.master && flagOf u.enables c && !flagOf u.pending c) }

/-- R190, R191: whether IRQN is asserted. -/
def CauseUnit.irqnAsserted (u : CauseUnit) : Bool :=
  match u.mode with
  | .level => u.master && (u.pending &&& u.enables) != 0#10
  | .pulse => u.pulse

/-- R188: the highest-priority pending cause. -/
def CauseUnit.highest (u : CauseUnit) : Option Cause := Cause.inPriority.find? (flagOf u.pending)

end Sys2Proof.Machine
end

