-- ==== Sys2Proof/Machine/Operands.lean ====
section
/-! DEFINITION. Every operand form: what a sensor delivers (R5), the codes of enumerated fields (R193), status codes
(R196), and how the value of a WRITE ITEM is judged by the kind of its item (R176, R177, R197). -/

namespace Sys2Proof.Machine

/-! ### Sensors (R5) -/

/-- R5: the reading a channel delivers; a converted value outside -2000..13000 has status RANGE. -/
def sensorReading : Sensor → Reading
  | .converted v =>
    { value := v.toInt, status := if -2000 ≤ v.toInt ∧ v.toInt ≤ 13000 then .valid else .range }
  | .openCircuit v => { value := v.toInt, status := .openCircuit }
  | .shortCircuit v => { value := v.toInt, status := .shortCircuit }

/-- R5: a reading is valid when its status is VALID. -/
def Reading.isValid (r : Reading) : Bool := r.status == .valid

/-! ### Codes (R193, R196) -/

def Role.code : Role → Octet
  | .tenant => 0x01
  | .common => 0x02

def StationState.code : StationState → Octet
  | .unconfigured => 0x00
  | .joining => 0x01
  | .running => 0x02
  | .quieting => 0x03
  | .quiet => 0x04

/-- The station-state codes in a Presence Notice (R193). -/
def NoticeState.code : NoticeState → Octet
  | .joining => 0x01
  | .running => 0x02
  | .quiet => 0x04

/-- R125, R193: the announced state of a received notice; any other code makes the notice malformed. -/
def noticeStateOfCode (o : Octet) : Option NoticeState :=
  if o = 0x01 then some .joining else if o = 0x02 then some .running else if o = 0x04 then some .quiet else none

def SupplyMode.code : SupplyMode → Octet
  | .mains => 0x00
  | .backup => 0x01
  | .recovering => 0x02

def SkewStatus.code : SkewStatus → Octet
  | .noSkew => 0x00
  | .behind => 0x01
  | .ahead => 0x02

def ReportStatus.code : ReportStatus → Octet
  | .undecided => 0x00
  | .pending => 0x01
  | .sent => 0x02
  | .stale => 0x03
  | .suppressed => 0x04
  | .discarded => 0x05

def PeerState.code : PeerState → Octet
  | .present => 0x01
  | .quiet => 0x02
  | .silent => 0x03
  | .incompatible => 0x04

def RecordKind.code : RecordKind → Octet
  | .finalRecord => 0x01
  | .interim => 0x02
  | .merged => 0x03

def CircuitState.code : CircuitState → Octet
  | .absent => 0x00
  | .normal => 0x01
  | .holding => 0x02
  | .fault => 0x03

def ConverterState.code : ConverterState → Octet
  | .running => 0x00
  | .restarting => 0x01

def ReadingStatus.code : ReadingStatus → Octet
  | .valid => 0x00
  | .range => 0x01
  | .openCircuit => 0x02
  | .shortCircuit => 0x03
  | .noReading => 0x04

def TxState.code : TxState → Octet
  | .idle => 0x00
  | .waitIdle => 0x01
  | .backoff => 0x02
  | .sending => 0x03

def ParserState.code : ParserState → Octet
  | .off => 0x00
  | .held => 0x01
  | .waitGap => 0x02
  | .afterFrame => 0x03
  | .ready => 0x04
  | .inFrame => 0x05

def TxFailure.code : TxFailure → Octet
  | .noFailure => 0x00
  | .collisionLimit => 0x01
  | .stale => 0x02
  | .lineStuck => 0x03
  | .abortedBySupply => 0x04

def LineTestMode.code : LineTestMode → Octet
  | .off => 0x00
  | .internal => 0x01
  | .external => 0x02

/-- R183: a mode octet that names none of OFF, INTERNAL and EXTERNAL is refused. -/
def lineTestModeOfCode (o : Octet) : Option LineTestMode :=
  if o = 0x00 then some .off else if o = 0x01 then some .internal else if o = 0x02 then some .external else none

def IrqMode.code : IrqMode → Octet
  | .level => 0x00
  | .pulse => 0x01

/-- R189: an interrupt mode that is neither LEVEL nor PULSE is refused. -/
def irqModeOfCode (o : Octet) : Option IrqMode :=
  if o = 0x00 then some .level else if o = 0x01 then some .pulse else none

/-- The places of the Window Table, as READ WINDOW selects them (R66). -/
inductive Place where
  | grace
  | opened
  | ahead
  deriving DecidableEq, Repr

/-- R193: the code of a window entry's role. -/
def Place.code : Place → Octet
  | .grace => 0x00
  | .opened => 0x01
  | .ahead => 0x02

/-- R183: a selector that names none of GRACE, OPEN and AHEAD is refused. -/
def placeOfCode (o : Octet) : Option Place :=
  if o = 0x00 then some .grace else if o = 0x01 then some .opened else if o = 0x02 then some .ahead else none

/-- The entry in a place. -/
def WindowTable.at (w : WindowTable) : Place → Option WindowEntry
  | .grace => w.graceEntry
  | .opened => w.openEntry
  | .ahead => w.aheadEntry

/-- R196: the status codes. -/
def Status.code : Status → Octet
  | .ok => 0x01
  | .clamped => 0x02
  | .notNow => 0x03
  | .badItem => 0x04
  | .badValue => 0x05
  | .empty => 0x06
  | .queueFull => 0x07
  | .incomplete => 0x08
  | .unknownCommand => 0x09

def CircuitsItem.code : CircuitsItem → Nat
  | .heat => 1
  | .cool => 2
  | .both => 3

/-- R1: whether CIRCUITS includes a circuit. -/
def CircuitsItem.includes : CircuitsItem → Plant → Bool
  | .heat, .heat => true
  | .heat, .cool => false
  | .cool, .heat => false
  | .cool, .cool => true
  | .both, _ => true

/-! ### Slot maps (R36) -/

/-- Item n of a slot map. -/
def SlotMap.item (m : SlotMap) : Nat → BitVec 16
  | 0 => m.item0
  | 1 => m.item1
  | 2 => m.item2
  | 3 => m.item3
  | 4 => m.item4
  | _ => m.item5

/-- Item n of a slot map replaced. -/
def SlotMap.setItem (m : SlotMap) (v : BitVec 16) : Nat → SlotMap
  | 0 => { m with item0 := v }
  | 1 => { m with item1 := v }
  | 2 => { m with item2 := v }
  | 3 => { m with item3 := v }
  | 4 => { m with item4 := v }
  | _ => { m with item5 := v }

/-- R36: the band of a slot: two bits, slot 8n in the most significant bits of item n. -/
def SlotMap.band (m : SlotMap) (slot : Nat) : Nat :=
  ((m.item (slot / 8)).toNat / 4 ^ (7 - slot % 8)) % 4

/-- The twelve octets of a slot map in the order of the digest (R129). -/
def SlotMap.octets (m : SlotMap) : List Octet :=
  Machine.octets 2 m.item0.toNat ++ Machine.octets 2 m.item1.toNat ++ Machine.octets 2 m.item2.toNat
    ++ Machine.octets 2 m.item3.toNat ++ Machine.octets 2 m.item4.toNat ++ Machine.octets 2 m.item5.toNat

/-! ### Item values (R176, R177, R197) -/

/-- The outcome of judging a WRITE ITEM: the items and calendar to store and the status. -/
structure ItemWrite where
  items : Items
  calendar : Calendar
  status : Status
  deriving DecidableEq, Repr

/-- R177: an enumerated item is refused outside its values. -/
def enumeratedWrite {α : Type} (i : Items) (c : Calendar) (value : Option α) (store : α → Items) : ItemWrite :=
  match value with
  | some v => { items := store v, calendar := c, status := .ok }
  | none => { items := i, calendar := c, status := .badValue }

/-- R177: a numeric item is clamped to its range and answered CLAMPED where the clamp changed the value. -/
def clampedWrite (c : Calendar) (low high v : Nat) (store : Nat → Items) : ItemWrite :=
  { items := store (clampNat low high v), calendar := c, status := if clampNat low high v = v then .ok else .clamped }

/-- R197: an item every value of which is valid takes the low two octets. -/
def lowOctets (v : BitVec 32) : Nat := v.toNat % 65536

def windowLengthOfMinutes (n : Nat) : Option WindowLength :=
  if n = 5 then some .min5 else if n = 10 then some .min10 else if n = 15 then some .min15
  else if n = 30 then some .min30 else none

def lineRateOfBaud (n : Nat) : Option LineRate :=
  if n = 9600 then some .b9600 else if n = 19200 then some .b19200 else if n = 38400 then some .b38400
  else if n = 76800 then some .b76800 else none

def roleOfNat (n : Nat) : Option Role := if n = 1 then some .tenant else if n = 2 then some .common else none

def circuitsOfNat (n : Nat) : Option CircuitsItem :=
  if n = 1 then some .heat else if n = 2 then some .cool else if n = 3 then some .both else none

/-- A value that lies in a range. -/
def inRange (low high n : Nat) : Option Nat := if low ≤ n ∧ n ≤ high then some n else none

/-- R37: HOLIDAY_ADD. The presence test comes before the capacity test. -/
def addHoliday (i : Items) (c : Calendar) (value : BitVec 32) : ItemWrite :=
  if 65535 < value.toNat then { items := i, calendar := c, status := .badValue }
  else if c.holidays.contains value.toNat then { items := i, calendar := c, status := .ok }
  else if c.holidays.length < 16 then
    { items := i, calendar := { c with holidays := insertAscending value.toNat c.holidays }, status := .ok }
  else { items := i, calendar := c, status := .badValue }

/-- R37: HOLIDAY_CLEAR. -/
def clearHolidays (i : Items) (c : Calendar) : ItemWrite :=
  { items := i, calendar := { c with holidays := [] }, status := .ok }

/-- R176, R177, R197: a WRITE ITEM judged by its item; `none` where the code names no item. -/
def judgeItemWrite (i : Items) (c : Calendar) (code : Octet) (value : BitVec 32) : Option ItemWrite :=
  let v := value.toNat
  match code.toNat with
  | 0x01 => some (enumeratedWrite i c (inRange 1 64 v) fun n => { i with stationAddress := some n })
  | 0x02 => some (enumeratedWrite i c (roleOfNat v) fun r => { i with role := some r })
  | 0x03 => some (clampedWrite c 1 64 v fun n => { i with expected := n })
  | 0x04 => some { items := { i with weight := lowOctets value }, calendar := c, status := .ok }
  | 0x05 => some (enumeratedWrite i c (circuitsOfNat v) fun k => { i with circuits := k })
  | 0x06 => some (clampedWrite c 1 10000 v fun n => { i with pulse := { i.pulse with heat := n } })
  | 0x07 => some (clampedWrite c 1 10000 v fun n => { i with pulse := { i.pulse with cool := n } })
  | 0x08 => some (clampedWrite c 0 200 v fun n => { i with dtCutoff := n })
  | 0x09 => some (enumeratedWrite i c (windowLengthOfMinutes v) fun l => { i with windowLength := some l })
  | 0x0A => some (clampedWrite c 30 900 v fun n => { i with grace := n })
  | 0x0B => some (enumeratedWrite i c (lineRateOfBaud v) fun r => { i with lineRate := r })
  | 0x0C => some (clampedWrite c 2 60 v fun n => { i with skewLimit := n })
  | 0x0D =>
    some (match inRange 0 6 v with
      | some n => { items := i, calendar := { c with epochWeekday := n }, status := .ok }
      | none => { items := i, calendar := c, status := .badValue })
  | 0x0E => some (clampedWrite c 0 7 v fun n => { i with queueAlertLevel := n })
  | 0x20 => some (addHoliday i c value)
  | 0x21 => some (clearHolidays i c)
  | n =>
    if 0x10 ≤ n ∧ n ≤ 0x15 then
      some { items := i, calendar := { c with weekday := c.weekday.setItem (value.extractLsb' 0 16) (n - 0x10) },
             status := .ok }
    else if 0x18 ≤ n ∧ n ≤ 0x1D then
      some { items := i, calendar := { c with weekend := c.weekend.setItem (value.extractLsb' 0 16) (n - 0x18) },
             status := .ok }
    else if 0x28 ≤ n ∧ n ≤ 0x2B then
      some { items := { i with rate := { i.rate with heat := i.rate.heat.modify (fun _ => lowOctets value) (n - 0x28) } },
             calendar := c, status := .ok }
    else if 0x2C ≤ n ∧ n ≤ 0x2F then
      some { items := { i with rate := { i.rate with cool := i.rate.cool.modify (fun _ => lowOctets value) (n - 0x2C) } },
             calendar := c, status := .ok }
    else none

/-- What READ ITEM finds under a code: no item, an unset item, or the octets of the stored value (R178, R197). -/
inductive ItemRead where
  | noItem
  | unset
  | stored (octets : List Octet)
  deriving DecidableEq, Repr

/-- A stored value as READ ITEM's four octets, `none` where unset. -/
def readOptional (v : Option Nat) : ItemRead :=
  match v with
  | some n => .stored (octets 4 n)
  | none => .unset

/-- R197: HOLIDAY_ADD is read as the count and sixteen day fields, unused fields 0x0000. -/
def holidayOctets (holidays : List Nat) : List Octet :=
  octets 1 holidays.length
    ++ ((holidays.map (octets 2)).flatten ++ zeros 32).take 32

/-- R178, R197: the value of an item. -/
def readItemValue (i : Items) (c : Calendar) (code : Octet) : ItemRead :=
  match code.toNat with
  | 0x01 => readOptional i.stationAddress
  | 0x02 => readOptional (i.role.map fun r => r.code.toNat)
  | 0x03 => .stored (octets 4 i.expected)
  | 0x04 => .stored (octets 4 i.weight)
  | 0x05 => .stored (octets 4 i.circuits.code)
  | 0x06 => .stored (octets 4 i.pulse.heat)
  | 0x07 => .stored (octets 4 i.pulse.cool)
  | 0x08 => .stored (octets 4 i.dtCutoff)
  | 0x09 => readOptional (i.windowLength.map WindowLength.minutes)
  | 0x0A => .stored (octets 4 i.grace)
  | 0x0B => .stored (octets 4 i.lineRate.baud)
  | 0x0C => .stored (octets 4 i.skewLimit)
  | 0x0D => .stored (octets 4 c.epochWeekday)
  | 0x0E => .stored (octets 4 i.queueAlertLevel)
  | 0x20 => .stored (holidayOctets c.holidays)
  | 0x21 => .stored (octets 4 c.holidays.length)
  | n =>
    if 0x10 ≤ n ∧ n ≤ 0x15 then .stored (octets 4 (c.weekday.item (n - 0x10)).toNat)
    else if 0x18 ≤ n ∧ n ≤ 0x1D then .stored (octets 4 (c.weekend.item (n - 0x18)).toNat)
    else if 0x28 ≤ n ∧ n ≤ 0x2B then .stored (octets 4 (i.rate.heat.get (n - 0x28)))
    else if 0x2C ≤ n ∧ n ≤ 0x2F then .stored (octets 4 (i.rate.cool.get (n - 0x2C)))
    else .noItem

end Sys2Proof.Machine
end

