-- ==== Sys2Proof/Machine/Frames.lean ====
section
/-! DEFINITION. The frames of the peer line: their octets as the station sends them and their fields as it reads them
(R115, R117, R122 to R124, R194), and the settings digest (R129). -/

namespace Sys2Proof.Machine

/-- R115: the lead octet. -/
def leadOctet : Octet := 0xC3

def windowReportKind : Octet := 0x31
def presenceNoticeKind : Octet := 0x32
def lineTestKind : Octet := 0x3F

/-- R115: the payload length of a kind, `none` for a kind octet that names no frame. -/
def payloadLength (kind : Octet) : Option Nat :=
  if kind = windowReportKind then some 32
  else if kind = presenceNoticeKind then some 11
  else if kind = lineTestKind then some 8
  else none

/-- R115, R117: the octets of a frame. -/
def frameOctets (kind : Octet) (payload : List Octet) : List Octet :=
  let body := kind :: BitVec.ofNat 8 payload.length :: payload
  leadOctet :: body ++ octets 2 (crc16 body).toNat

/-- R194: the payload of a Window Report. -/
def WindowReport.payload (r : WindowReport) : List Octet :=
  octets 1 r.sender ++ [r.roleCode] ++ octets 2 r.day ++ octets 2 r.windowInDay ++ octets 4 r.demand.heat
    ++ octets 4 r.demand.cool ++ octets 5 r.energy.heat ++ octets 5 r.energy.cool ++ octets 2 r.weight
    ++ octets 2 r.digest ++ octets 3 r.second ++ [qualityOctet r.quality]

/-- R194: the Window Report a payload carries. -/
def reportOfPayload (p : List Octet) : WindowReport :=
  { sender := fieldAt p 0 1, roleCode := octetAt p 1, day := fieldAt p 2 2, windowInDay := fieldAt p 4 2,
    demand := { heat := fieldAt p 6 4, cool := fieldAt p 10 4 },
    energy := { heat := fieldAt p 14 5, cool := fieldAt p 19 5 },
    weight := fieldAt p 24 2, digest := fieldAt p 26 2, second := fieldAt p 28 3,
    quality := qualityOfOctet (octetAt p 31) }

/-- R194: the payload of a Presence Notice. -/
def PresenceNotice.payload (n : PresenceNotice) : List Octet :=
  octets 1 n.sender ++ [n.roleCode, n.announced.code] ++ octets 2 n.weight ++ octets 2 n.digest ++ octets 1 n.expected
    ++ octets 3 n.second

/-- R194: the Presence Notice a payload carries, `none` where its state code is none of the three (R125). -/
def noticeOfPayload (p : List Octet) : Option PresenceNotice :=
  (noticeStateOfCode (octetAt p 2)).map fun st =>
    { sender := fieldAt p 0 1, roleCode := octetAt p 1, announced := st, weight := fieldAt p 3 2,
      digest := fieldAt p 5 2, expected := fieldAt p 7 1, second := fieldAt p 8 3 }

/-- R124: the fixed pattern of a Line Test. -/
def testPattern : List Octet := [0x5A, 0xA5, 0x33, 0xCC, 0x0F]

/-- R194: the payload of a Line Test. -/
def lineTestPayload (sequence : Nat) : List Octet := 0x00 :: octets 2 sequence ++ testPattern

/-- R124: a Line Test is well formed when its address octet is 0 and its pattern is the fixed one. -/
def lineTestWellFormed (p : List Octet) : Bool := octetAt p 0 == 0 && (p.drop 3).take 5 == testPattern

/-- The octets of the frame in the report slot. -/
def ReportContent.frame : ReportContent → List Octet
  | .windowReport r => frameOctets windowReportKind r.payload
  | .lineTest sequence => frameOctets lineTestKind (lineTestPayload sequence)

/-- The octets of a Presence Notice. -/
def PresenceNotice.frame (n : PresenceNotice) : List Octet := frameOctets presenceNoticeKind n.payload

/-- The octets of the current frame (R133, R139); none while there is no current frame. -/
def Transmitter.currentFrame (t : Transmitter) : List Octet :=
  match t.current with
  | some .report => (t.report.map fun r => r.content.frame).getD []
  | some .notice => (t.notice.map fun n => n.notice.frame).getD []
  | none => []

/-- R116: a frame in progress has all its octets, the second CRC octet included, and waits to be judged. -/
def frameComplete (frame : List Octet) : Bool :=
  match frame with
  | _ :: kind :: _ :: _ => (payloadLength kind).map (fun n => n + 5) == some frame.length
  | _ => false

/-- R117, R121: the CRC over kind, length and payload agrees with the two CRC octets. -/
def frameGood (frame : List Octet) : Bool :=
  let covered := (frame.drop 1).take (frame.length - 3)
  octets 2 (crc16 covered).toNat == frame.drop (frame.length - 2)

/-- The payload of a complete frame. -/
def framePayload (frame : List Octet) : List Octet := (frame.drop 3).take (frame.length - 5)

/-- R129: the octets the settings digest is computed over. -/
def digestInput (i : Items) (c : Calendar) : List Octet :=
  octets 1 i.length.minutes ++ octets 2 i.grace ++ octets 1 c.epochWeekday ++ octets 1 c.holidays.length
    ++ (c.holidays.map (octets 2)).flatten ++ c.weekday.octets ++ c.weekend.octets

/-- R129: the settings digest. -/
def settingsDigest (i : Items) (c : Calendar) : Nat := (crc16 (digestInput i c)).toNat

end Sys2Proof.Machine
end

