-- ==== Sys2Proof/Machine/Ops.lean ====
section
/-! DEFINITION. The operations the commands share: taking a host command at the port, taking an event, raising a cause,
turning the receiver on and off, the transmit queue and the current frame, and the full reset. -/

namespace Sys2Proof.Machine

/-- The outcome of a command. -/
abbrev Result := Host.Outcome State Fault Refusal

/-! ### Causes (R187) and outputs -/

/-- R187: raise a cause. -/
def State.raise (c : Cause) (s : State) : State := { s with causes := s.causes.raise c }

/-- R187: raise a cause where `b` holds. -/
def State.raiseIf (b : Bool) (c : Cause) (s : State) : State := if b then s.raise c else s

/-- R190, R191: IRQN asserted (driven low). -/
def State.irqnAsserted (s : State) : Bool := s.causes.irqnAsserted

/-- R139, R148, R150: LDE is high during SENDING outside INTERNAL mode. -/
def State.lde (s : State) : Bool := s.transmitter.state == .sending && s.transmitter.testMode != .internal

/-- R139: the octets of the running attempt, sent one after another without pause. -/
def State.octetsSent (s : State) : List Octet :=
  if s.transmitter.state = .sending then s.transmitter.currentFrame else []

/-- R111: the levels of one character, mark being `true`: the start bit, the data bits from the least significant, the
stop bit. -/
def characterLevels (octet : Octet) : List Bool := false :: ((List.range 8).map octet.getLsbD ++ [true])

/-- The level a run of characters gives at a bit time counted from its first start bit; the line rests at mark after it
(R111). -/
def levelAt (sent : List Octet) (bit : Nat) : Bool := ((sent.flatMap characterLevels)[bit]?).getD true

/-- R139, R148, R150: the level of LTX a number of bit times after the attempt began, mark being `true`: the frame's
characters during SENDING, mark otherwise and throughout in INTERNAL mode. -/
def State.ltx (s : State) (bit : Nat) : Bool := if s.lde then levelAt s.octetsSent bit else true

/-- R114, R139: the level of the internal loop in the same terms: the station's own characters in INTERNAL mode. -/
def State.loopLevel (s : State) (bit : Nat) : Bool :=
  if s.transmitter.testMode = .internal then levelAt s.octetsSent bit else true

/-- R181, R182, R196: the octet MISO carries a number of octets after the taking, the status octet first: nothing while
SSN is high, where MISO is not driven; 0x00 while no command has been taken, after RESET, and past the response. -/
def Port.misoOctet (p : Port) (n : Nat) : Option Octet :=
  match p.phase with
  | .idle => none
  | .opened | .ignored => some 0x00
  | .taken => some (p.response.getD n 0x00)

/-- R181: the level of MISO in the same terms, a number of SCK bits after the taking: each octet from its most significant
bit. -/
def State.miso (s : State) (bit : Nat) : Option Bool :=
  (s.port.misoOctet (bit / 8)).map fun o => o.getLsbD (7 - bit % 8)

/-! ### Taking events and host commands -/

/-- An event of a block: while RSTN is low the station is held at its full-reset values and no event is taken (R179). -/
def takeEvent (effect : State → State) (s : State) : Result :=
  .next (if s.rstnHigh then effect s else s)

/-- The octets the port shifts out after the taking (R182). -/
def respond (status : Status) (body : List Octet) : List Octet := status.code :: body

/-- R181 to R183: a host command is taken where RSTN is high and a transaction is open in which no command has been
taken; its effect is made and its response fixed at that moment. Anywhere else its octets are ignored. -/
def takeCommand (effect : State → State × List Octet) (s : State) : Result :=
  .next
    (if s.rstnHigh && s.port.phase == .opened then
      let r := effect s
      { r.1 with port := { phase := .taken, response := r.2 } }
    else s)

/-- R183: a command that gives only a status changes no state; its response octets read 0x00 (R182). -/
def statusOnly (status : Status) (bodyLength : Nat) (s : State) : State × List Octet :=
  (s, respond status (zeros bodyLength))

/-- R184: a command accepted in UNCONFIGURED only. -/
def unconfiguredOnly (bodyLength : Nat) (effect : State → State × List Octet) (s : State) : State × List Octet :=
  if s.station.state = .unconfigured then effect s else statusOnly .notNow bodyLength s

/-- R184: a command accepted in every commissioned state. -/
def commissionedOnly (bodyLength : Nat) (effect : State → State × List Octet) (s : State) : State × List Octet :=
  if s.station.state = .unconfigured then statusOnly .notNow bodyLength s else effect s

/-- R184: a command accepted in RUNNING, QUIETING and QUIET. -/
def afterJoiningOnly (bodyLength : Nat) (effect : State → State × List Octet) (s : State) : State × List Octet :=
  match s.station.state with
  | .unconfigured | .joining => statusOnly .notNow bodyLength s
  | .running | .quieting | .quiet => effect s

/-! ### Receiver on and off (R113) -/

/-- R113: whether the receiver is on, by station state, supply mode and line-test mode. -/
def State.receiverOn (s : State) : Bool :=
  s.station.supplyMode == .mains && (s.station.state != .unconfigured || s.transmitter.testMode != .off)

/-- R113: the receiver turned off: parser OFF, any frame in progress abandoned uncounted, gap timer 0; characters are not
sampled. -/
def Receiver.turnedOff (r : Receiver) : Receiver :=
  { r with parser := .off, gapTimer := 0, frame := [], charInProgress := false }

/-- R113: the receiver turned on, or its source or rate changed: parser WAIT_GAP, gap timer 0, no frame in progress. A
character in progress is dropped with the frame (DESIGN CHOICE, log entry 31). -/
def Receiver.turnedOn (r : Receiver) : Receiver :=
  { r with parser := .waitGap, gapTimer := 0, frame := [], charInProgress := false }

/-- R112: LRX seen at a level, which the internal loop tells nothing of. -/
def State.seeLrx (space : Bool) (s : State) : State :=
  { s with
    receiver :=
      { s.receiver with lrxAtSpace := if s.transmitter.testMode = .internal then s.receiver.lrxAtSpace else space } }

/-- R112: the receiver's source is held at space; the internal loop rests at mark (R114). -/
def State.sourceAtSpace (s : State) : Bool := s.receiver.lrxAtSpace && s.transmitter.testMode != .internal

/-- R113, R143: the receiver put on or off as the table of R113 now gives; a turn-on sets the stuck timer to 0. -/
def State.restartReceiver (s : State) : State :=
  if s.receiverOn then
    { s with receiver := s.receiver.turnedOn, transmitter := { s.transmitter with stuckTimer := 0 } }
  else { s with receiver := s.receiver.turnedOff }

/-! ### The transmit queue (R132 to R137) -/

/-- R132: the seed of a frame queued now. -/
def State.seedNow (s : State) : Nat := if s.timebase.clockValid then s.timebase.secondOfDay % 256 else 0

/-- R47, R135: the weight a frame carries, 0 at a COMMON station. -/
def State.carriedWeight (s : State) : Nat := if s.items.role = some .common then 0 else s.items.weight

/-- R47, R135: the role code a frame carries. -/
def State.roleCode (s : State) : Octet := (s.items.role.map Role.code).getD 0

/-- R134, R135: a Presence Notice entering its slot now. Its second-of-day is filled when an attempt starts (R139). -/
def State.newNotice (announced : NoticeState) (s : State) : NoticeSlot :=
  { notice :=
      { sender := s.items.address, roleCode := s.roleCode, announced := announced, weight := s.carriedWeight,
        digest := s.station.digest, expected := s.items.expected, second := 0 },
    attempts := 0, seed := s.seedNow, stuckReported := false }

/-- The slot's frame is in transmission: the transmitter is in SENDING with it (R139). -/
def Transmitter.isSending (t : Transmitter) (slot : Slot) : Bool := t.state == .sending && t.current == some slot

/-- R143: 2 nominal seconds, in units of 1/7680 s. -/
def stuckLimit : Nat := 15360

/-- The stuck-reported mark of the current frame; there is none to report without a current frame (R143). -/
def Transmitter.currentStuckReported (t : Transmitter) : Bool :=
  match t.current with
  | some .report => (t.report.map fun r => r.stuckReported).getD true
  | some .notice => (t.notice.map fun n => n.stuckReported).getD true
  | none => true

/-- R143: the current frame's stuck-reported mark set. -/
def Transmitter.markStuckReported (t : Transmitter) : Transmitter :=
  match t.current with
  | some .report => { t with report := t.report.map fun r => { r with stuckReported := true } }
  | some .notice => { t with notice := t.notice.map fun n => { n with stuckReported := true } }
  | none => t

/-- R143: while the stuck timer stands at 2 s, a current frame not yet reported is reported as stuck. -/
def State.reportStuck (s : State) : State :=
  if stuckLimit ≤ s.transmitter.stuckTimer ∧ s.transmitter.currentStuckReported = false then
    { s with transmitter := { s.transmitter.markStuckReported with lastFailure := .lineStuck } }.raise .txFailure
  else s

/-- The attempt count of the current frame. -/
def Transmitter.currentAttempts (t : Transmitter) : Nat :=
  match t.current with
  | some .report => (t.report.map fun r => r.attempts).getD 0
  | some .notice => (t.notice.map fun n => n.attempts).getD 0
  | none => 0

/-- The seed of the current frame. -/
def Transmitter.currentSeed (t : Transmitter) : Nat :=
  match t.current with
  | some .report => (t.report.map fun r => r.seed).getD 0
  | some .notice => (t.notice.map fun n => n.seed).getD 0
  | none => 0

/-- R137: the address in the backoff: STATION_ADDRESS, or 0 for a Line Test. -/
def State.backoffAddress (s : State) : Nat :=
  match s.transmitter.current, s.transmitter.report with
  | some .report, some { content := .lineTest _, attempts := _, seed := _, expired := _, stuckReported := _ } => 0
  | _, _ => s.items.address

/-- R137: the contention window CW = min(8 × 2^a, 128). -/
def contentionWindow (attempts : Nat) : Nat := min (8 * 2 ^ attempts) 128

/-- R137: k = (5 × A + 3 × a + s) mod CW. -/
def backoffOf (address attempts seed : Nat) : Nat := (5 * address + 3 * attempts + seed) % contentionWindow attempts

/-- R137, R143: the transmitter enters BACKOFF with the current frame. -/
def State.enterBackoff (s : State) : State :=
  { s with
    transmitter :=
      { s.transmitter with
        state := .backoff
        backoffSlots := backoffOf s.backoffAddress s.transmitter.currentAttempts s.transmitter.currentSeed
        stuckTimer := 0 } }

/-- R137: the transmitter enters WAIT_IDLE with the current frame, and BACKOFF at once if the gap timer stands at 4. -/
def State.enterWaitIdle (s : State) : State :=
  if s.receiver.gapTimer = 4 then s.enterBackoff
  else { s with transmitter := { s.transmitter with state := .waitIdle, backoffSlots := 0 } }.reportStuck

/-- R133: the slot whose frame is to be current. -/
def Transmitter.wanted (t : Transmitter) : Option Slot :=
  if t.report.isSome then some .report else if t.notice.isSome then some .notice else none

/-- R133: the transmitter becomes IDLE; the stuck timer is 0 (R143). -/
def Transmitter.becomeIdle (t : Transmitter) : Transmitter :=
  { t with state := .idle, current := none, backoffSlots := 0, stuckTimer := 0 }

/-- R133: the choice of the current frame, made whenever the transmitter is not in SENDING: the report ahead of the
notice; a frame already current stays as it stands, any other goes to WAIT_IDLE; with both slots empty IDLE. -/
def State.chooseCurrent (s : State) : State :=
  if s.transmitter.state = .sending then s
  else if s.transmitter.wanted = none then { s with transmitter := s.transmitter.becomeIdle }
  else if s.transmitter.wanted = s.transmitter.current then s
  else { s with transmitter := { s.transmitter with current := s.transmitter.wanted } }.enterWaitIdle

/-- The running attempt, if any, ends: the transmitter leaves SENDING with no current frame chosen, LDE is released, and
a HELD parser goes to WAIT_GAP (R114) with the gap timer at 0, since every octet read back began with a start bit. -/
def State.endAttempt (s : State) : State :=
  { s with
    transmitter := { s.transmitter with state := .idle, current := none, readBack := .matched 0 }
    receiver :=
      { s.receiver with
        parser := if s.receiver.parser = .held then .waitGap else s.receiver.parser
        gapTimer := 0
        charInProgress := false } }

/-- A frame leaves or newly enters a slot that is not in transmission: if it was current it is current no longer. -/
def Transmitter.notCurrent (t : Transmitter) (slot : Slot) : Transmitter :=
  if t.current = some slot ∧ t.state ≠ .sending then { t with current := none } else t

/-- R170: the end of the QUIET notice makes a QUIETING station QUIET and changes nothing in another state. -/
def State.endOfQuietNotice (s : State) : State :=
  if s.station.state = .quieting then { s with station := { s.station with state := .quiet } } else s

/-- R170: the end of a notice is reported where it announces QUIET. -/
def State.noticeEnded (announced : NoticeState) (s : State) : State :=
  if announced = .quiet then s.endOfQuietNotice else s

/-- R134, R146: a Presence Notice is requested. -/
def State.requestNotice (announced : NoticeState) (s : State) : State :=
  if s.station.supplyMode ≠ .mains then
    { s with transmitter := { s.transmitter with lastFailure := .abortedBySupply } }.noticeEnded announced
  else if s.transmitter.isSending .notice then
    { s with transmitter := { s.transmitter with followOn := some announced } }
  else
    { s with
      transmitter :=
        { s.transmitter.notCurrent .notice with notice := some (s.newNotice announced) } }.chooseCurrent

/-! ### The fate of a Window Report (R43, R63) -/

/-- R43: PENDING is replaced; every other status is final or not yet decided. -/
def ReportStatus.settle (status : ReportStatus) (outcome : ReportStatus) : ReportStatus :=
  if status = .pending then outcome else status

/-- A report that has not expired: the status of the GRACE entry (R58, R59). -/
def State.settleGraceReport (outcome : ReportStatus) (s : State) : State :=
  { s with
    windows :=
      { s.windows with
        graceEntry := s.windows.graceEntry.map fun e => { e with reportStatus := e.reportStatus.settle outcome } } }

/-- An expired report: the status of the closed-report record (R63). -/
def State.settleClosedReport (outcome : ReportStatus) (s : State) : State :=
  { s with
    windows :=
      { s.windows with
        closedReport := s.windows.closedReport.map fun c => { c with status := c.status.settle outcome } } }

/-- R58, R59, R63: the transmitter reports the end of a Window Report. -/
def State.settleReport (expired : Bool) (outcome : ReportStatus) (s : State) : State :=
  if expired then s.settleClosedReport outcome else s.settleGraceReport outcome

/-- R64: a report's grace expiry falls in this moment: it has been issued and not yet taken, and the report is the PENDING one
of the GRACE entry. -/
def State.expiryFollows (s : State) : ReportContent → Bool
  | .windowReport _ =>
    s.timebase.due.graceExpiry && decide (s.windows.graceEntry.map WindowEntry.reportStatus = some .pending)
  | .lineTest _ => false

/-- R132, R133: a frame enters the report slot with attempt count 0, its seed and clear marks. -/
def State.queueReport (content : ReportContent) (s : State) : State :=
  { s with
    transmitter :=
      { s.transmitter.notCurrent .report with
        report := some { content := content, attempts := 0, seed := s.seedNow, expired := false,
                         stuckReported := false } } }.chooseCurrent

/-- R148: any Line Test in the report slot is dropped, waiting or in transmission; the transmitter becomes IDLE and
nothing is counted. Taken in UNCONFIGURED, where the queue holds nothing else (R132). -/
def State.dropLineTest (s : State) : State :=
  { s.endAttempt with transmitter := { s.endAttempt.transmitter.becomeIdle with report := none } }

/-! ### The full reset (R179, R180) -/

/-- R164: the supply mode a full reset ends in. -/
def supplyOfPin (pfailnHigh : Bool) : SupplyMode := if pfailnHigh then .mains else .backup

/-- R180, R181: every block at its full-reset values; the pins stay as the outside drives them, and a transaction in
progress ends, the port waiting for SSN to rise. The command queue is the outside's and stays. -/
def State.fullReset (s : State) : State :=
  { State.reset with
    rstnHigh := s.rstnHigh
    pfailnHigh := s.pfailnHigh
    port := { phase := if s.port.phase = .idle then .idle else .ignored, response := [] }
    station := { Station.reset with supplyMode := supplyOfPin s.pfailnHigh }
    freeCount := s.freeCount
    pending := s.pending }

end Sys2Proof.Machine
end

