-- ==== Sys2Proof/Machine/Layouts.lean ====
section
/-! DEFINITION. The octet layouts of the host port's responses (R193, R195, R198, R199). -/

namespace Sys2Proof.Machine

/-! ### The Settlement Record (R195): 224 octets -/

/-- R195: one peak record, 19 octets; an absent peak is all 0x00. -/
def peakOctets : Option Peak → List Octet
  | none => zeros 19
  | some p =>
    markOctet true :: octets 4 p.index ++ octets 6 p.complexDemand ++ octets 4 p.ownDemand ++ octets 1 p.contributors
      ++ octets 3 p.sharePpm

/-- R195: eight band fields of six octets, heat bands 0 to 3, then cool bands 0 to 3. -/
def bandOctets (x : PerPlant (PerBand Nat)) : List Octet :=
  octets 6 x.heat.band0 ++ octets 6 x.heat.band1 ++ octets 6 x.heat.band2 ++ octets 6 x.heat.band3
    ++ octets 6 x.cool.band0 ++ octets 6 x.cool.band1 ++ octets 6 x.cool.band2 ++ octets 6 x.cool.band3

/-- One six-octet field per plant. -/
def plantOctets6 (x : PerPlant Nat) : List Octet := octets 6 x.heat ++ octets 6 x.cool

/-- R195: the nine window counts, two octets each. -/
def WindowCounts.octets (c : WindowCounts) : List Octet :=
  Machine.octets 2 c.closed ++ Machine.octets 2 c.complete ++ Machine.octets 2 c.estimated
    ++ Machine.octets 2 c.faulted ++ Machine.octets 2 c.backup ++ Machine.octets 2 c.partialWindows
    ++ Machine.octets 2 c.unapportioned ++ Machine.octets 2 c.contributorsHeard
    ++ Machine.octets 2 c.estimatedContributors

/-- R195: the receive errors framing, stray, length, CRC. -/
def RxErrors.octets (e : RxErrors) : List Octet :=
  Machine.octets 2 e.framing ++ Machine.octets 2 e.stray ++ Machine.octets 2 e.length ++ Machine.octets 2 e.crc

/-- R195: a Settlement Record. -/
def Record.octets (r : Record) : List Octet :=
  [r.kind.code] ++ Machine.octets 1 r.address ++ [(r.role.map Role.code).getD 0] ++ Machine.octets 2 r.firstDay
    ++ Machine.octets 2 r.lastDay ++ Machine.octets 2 r.mergedCount ++ [recordFlagsOctet r.partialDay r.saturated]
    ++ bandOctets r.figures.energy ++ bandOctets r.figures.commonShare ++ plantOctets6 r.figures.complexEnergy
    ++ peakOctets r.figures.peak.heat ++ peakOctets r.figures.peak.cool ++ Machine.octets 6 r.figures.unmetered
    ++ Machine.octets 4 r.figures.reverseCount ++ r.figures.counts.octets
    ++ Machine.octets 2 r.figures.dispositions.late ++ Machine.octets 2 r.figures.dispositions.duplicate
    ++ Machine.octets 2 r.figures.dispositions.farAhead ++ Machine.octets 2 r.figures.addressClashes
    ++ r.rxErrors.octets ++ plantOctets6 r.energyCost ++ plantOctets6 r.commonCost

/-- R195: the length of the record layout. -/
def recordLength : Nat := 224

/-! ### READ STATUS (R185, R198): 46 octets -/

/-- R34, R39: slew remaining as it stands once a slew step that is due has been taken (log entry 4). -/
def Timebase.slewSettled (t : Timebase) : Int :=
  if t.due.slewStep then t.slewRemaining - t.slewRemaining.sign else t.slewRemaining

/-- R31, R39: the global index of the OPEN window, 0 before COMMISSION. -/
def State.openIndex (s : State) : Nat :=
  if s.timebase.boundaryOn then globalIndex s.items.length s.timebase.day s.timebase.windowInDay else 0

/-- R198: the closed-report record. -/
def closedReportOctets : Option ClosedReport → List Octet
  | none => zeros 6
  | some c => markOctet true :: octets 4 c.index ++ [c.status.code]

/-- R163: how many entries of the Peer Table are in a state. -/
def countPeers (peers : List PeerEntry) (state : PeerState) : Nat := (peers.filter fun p => p.state == state).length

/-- R185, R198: the status response. -/
def statusOctets (s : State) : List Octet :=
  [s.station.state.code, markOctet s.station.commissioned, s.station.supplyMode.code]
    ++ octets 1 s.station.recoveryCount ++ [s.station.skew.code] ++ octets 2 s.station.digest
    ++ [markOctet s.timebase.clockValid] ++ octets 2 s.timebase.day ++ octets 3 s.timebase.secondOfDay
    ++ octets 2 s.timebase.windowInDay ++ octets 2 s.timebase.secondsInWindow
    ++ signedOctets 1 s.timebase.slewSettled ++ octets 4 s.openIndex ++ closedReportOctets s.windows.closedReport
    ++ octets 1 s.records.queue.length ++ [markOctet s.records.overflow.isSome]
    ++ octets 2 ((s.records.overflow.map fun r => r.mergedCount).getD 0) ++ octets 2 s.records.discarded
    ++ octets 1 s.peers.length ++ octets 1 (countPeers s.peers .present) ++ octets 1 (countPeers s.peers .quiet)
    ++ octets 1 (countPeers s.peers .silent) ++ octets 1 (countPeers s.peers .incompatible)
    ++ causeWord s.causes.pending ++ causeWord s.causes.enables
    ++ [markOctet s.causes.master, s.causes.mode.code, markOctet s.irqnAsserted]

/-! ### READ WINDOW (R66, R199): 92 octets -/

/-- R193: the contributor map, address a in bit 7 - ((a - 1) mod 8) of octet (a - 1) / 8. -/
def contributorMap (contributors : List Nat) : List Octet :=
  octets 8 ((contributors.map fun a => 2 ^ (64 - a)).sum)

/-- R199: the own part of one plant. -/
def OwnPart.octets (o : OwnPart) : List Octet :=
  Machine.octets 5 o.energy ++ Machine.octets 4 o.metered ++ Machine.octets 4 o.unmetered ++ Machine.octets 4 o.demand
    ++ [o.flags.octet]

/-- R199: the peer sums of one plant. -/
def PeerSums.octets (p : PeerSums) : List Octet :=
  Machine.octets 6 p.demand ++ Machine.octets 6 p.energy ++ Machine.octets 6 p.common

/-- R66, R199: a window entry. -/
def windowOctets (place : Place) (e : WindowEntry) : List Octet :=
  octets 4 e.index ++ [place.code] ++ e.own.heat.octets ++ e.own.cool.octets ++ octets 2 e.reverseCount
    ++ [e.reportStatus.code] ++ contributorMap e.contributors ++ octets 3 e.weightSum ++ e.sums.heat.octets
    ++ e.sums.cool.octets ++ octets 1 e.estimatedContributors

/-- R199: the length of the window layout. -/
def windowLengthOctets : Nat := 92

/-! ### READ PEER (R163, R199): 32 octets -/

/-- R199: the acceptance mark, last window, signed offset and offset index. -/
def acceptanceOctets : Option Acceptance → List Octet
  | none => zeros 12
  | some a => markOctet true :: octets 4 a.lastWindow ++ signedOctets 3 a.offset ++ octets 4 a.offsetIndex

/-- R163, R199: a Peer Entry. -/
def PeerEntry.octets (p : PeerEntry) : List Octet :=
  Machine.octets 1 p.address ++ [p.state.code, p.roleCode] ++ Machine.octets 2 p.weight
    ++ Machine.octets 2 p.lastDigest ++ [markOctet p.announced.isSome, (p.announced.map NoticeState.code).getD 0]
    ++ [markOctet p.announcedExpected.isSome] ++ Machine.octets 1 (p.announcedExpected.getD 0)
    ++ acceptanceOctets p.acceptance ++ Machine.octets 1 p.missed ++ Machine.octets 2 p.accepted
    ++ Machine.octets 2 p.late ++ Machine.octets 2 p.duplicate ++ Machine.octets 2 p.farAhead

/-- R199: the length of the peer layout. -/
def peerLength : Nat := 32

/-! ### READ TOTALS (R21, R199): 71 octets -/

/-- R199: one circuit meter. -/
def CircuitMeter.octets (m : CircuitMeter) : List Octet :=
  [m.state.code] ++ Machine.octets 1 m.holdCount ++ Machine.octets 1 m.goodRun ++ Machine.octets 3 m.residue
    ++ Machine.octets 8 m.lifetimeEnergy ++ Machine.octets 8 m.lifetimeVolume ++ signedOctets 2 m.heldSupply
    ++ signedOctets 2 m.heldReturn
    ++ [BitVec.ofNat 8 (flagBit m.supplyValid 0 + flagBit m.returnValid 1)] ++ Machine.octets 1 m.latched

/-- R199: one reading. -/
def Reading.octets (r : Reading) : List Octet := signedOctets 2 r.value ++ [r.status.code]

/-- R21, R199: the circuit meters and the converter. -/
def totalsOctets (s : State) : List Octet :=
  s.meters.heat.octets ++ s.meters.cool.octets ++ [s.converter.state.code] ++ octets 1 s.converter.restartCount
    ++ octets 1 s.converter.backupCount ++ s.converter.hs.octets ++ s.converter.hr.octets ++ s.converter.cs.octets
    ++ s.converter.cr.octets

/-! ### READ LINE (R130, R150, R199): 41 octets -/

/-- R193: the code of the report slot's content. -/
def reportSlotCode : Option ReportSlot → Octet
  | none => 0x00
  | some r =>
    match r.content with
    | .windowReport _ => 0x01
    | .lineTest _ => 0x03

/-- R193: the code of the notice slot's content. -/
def noticeSlotCode : Option NoticeSlot → Octet
  | none => 0x00
  | some _ => 0x02

/-- R199: the line response. -/
def lineOctets (s : State) : List Octet :=
  octets 3 s.items.lineRate.baud ++ [markOctet s.receiverOn, s.receiver.parser.code] ++ s.receiver.errors.octets
    ++ octets 2 s.receiver.ignored ++ octets 2 s.receiver.incompatible ++ octets 2 s.receiver.addressClashes
    ++ octets 2 s.receiver.testEchoes ++ [markOctet s.receiver.lastEcho.isSome] ++ octets 2 (s.receiver.lastEcho.getD 0)
    ++ [s.transmitter.state.code, reportSlotCode s.transmitter.report]
    ++ octets 1 ((s.transmitter.report.map fun r => r.attempts).getD 0) ++ [noticeSlotCode s.transmitter.notice]
    ++ [(s.transmitter.notice.map fun n => n.notice.announced.code).getD 0,
        (s.transmitter.followOn.map NoticeState.code).getD 0]
    ++ octets 1 ((s.transmitter.notice.map fun n => n.attempts).getD 0) ++ [s.transmitter.lastFailure.code]
    ++ octets 2 s.transmitter.framesSent ++ octets 2 s.transmitter.collisions ++ octets 2 s.transmitter.giveUps
    ++ [s.transmitter.testMode.code] ++ octets 2 s.transmitter.testSequence

end Sys2Proof.Machine
end

