-- ==== Sys2Proof/Machine/HostPort.lean ====
section
/-! DEFINITION. The host port, the Cause Unit and the configuration items: WRITE_ITEM, HOLIDAY_ADD, HOLIDAY_CLEAR,
READ_ITEM, READ_STATUS, READ_CAUSE, SET_ENABLES, UNKNOWN_COMMAND, SSN_FALLING, SSN_RISING and IRQN_PULSE_END. -/

namespace Sys2Proof.Machine

/-! ### Transactions (R181, R182) -/

/-- R181: SSN falls: a transaction begins, ignored while RSTN is low. -/
def Port.falls (p : Port) (rstnHigh : Bool) : Port :=
  if p.phase = .idle then { phase := if rstnHigh then .opened else .ignored, response := [] } else p

/-- SSN_FALLING (R181). -/
def execSsnFalling (s : State) : Result := .next { s with port := s.port.falls s.rstnHigh }

/-- SSN_RISING (R181, R182): the transaction ends; what has not been shifted out is lost. -/
def execSsnRising (s : State) : Result := .next { s with port := { phase := .idle, response := [] } }

/-- UNKNOWN_COMMAND (R183): answered with its status alone. An octet that does name a command is no such command. -/
def execUnknownCommand (octet : Octet) (s : State) : Result :=
  if namesCommand octet then .fault (.illFormedCommand octet) else takeCommand (statusOnly .unknownCommand 0) s

/-! ### Configuration items (R176, R178, R197) -/

/-- R176: a judged write stored and answered. -/
def State.storeItems (w : ItemWrite) (s : State) : State := { s with items := w.items, calendar := w.calendar }

/-- R197: the item code of LINE_RATE. -/
def lineRateCode : Octet := 0x0B

/-- R111, R148: a taken LINE_RATE write drops a Line Test and puts the parser of a receiver that is on in WAIT_GAP. -/
def State.rateChanged (code : Octet) (status : Status) (s : State) : State :=
  if code = lineRateCode ∧ status = .ok then s.dropLineTest.restartReceiver else s

/-- R176: WRITE ITEM in UNCONFIGURED. -/
def writeItemEffect (code : Octet) (value : BitVec 32) (s : State) : State × List Octet :=
  match judgeItemWrite s.items s.calendar code value with
  | none => statusOnly .badItem 0 s
  | some w => ((s.storeItems w).rateChanged code w.status, respond w.status [])

/-- WRITE_ITEM (R176). -/
def execWriteItem (code : Octet) (value : BitVec 32) (s : State) : Result :=
  takeCommand (unconfiguredOnly 0 (writeItemEffect code value)) s

/-- R37: HOLIDAY_ADD in UNCONFIGURED. -/
def holidayAddEffect (value : BitVec 32) (s : State) : State × List Octet :=
  let w := addHoliday s.items s.calendar value
  (s.storeItems w, respond w.status [])

/-- HOLIDAY_ADD (R37). -/
def execHolidayAdd (value : BitVec 32) (s : State) : Result :=
  takeCommand (unconfiguredOnly 0 (holidayAddEffect value)) s

/-- R37: HOLIDAY_CLEAR in UNCONFIGURED; its value is ignored (R197). -/
def holidayClearEffect (_value : BitVec 32) (s : State) : State × List Octet :=
  let w := clearHolidays s.items s.calendar
  (s.storeItems w, respond w.status [])

/-- HOLIDAY_CLEAR (R37). -/
def execHolidayClear (value : BitVec 32) (s : State) : Result :=
  takeCommand (unconfiguredOnly 0 (holidayClearEffect value)) s

/-- R196: the response length of READ ITEM: 33 octets for HOLIDAY_ADD, 4 for every other code. -/
def readItemLength (code : Octet) : Nat := if code = holidayAddCode then 33 else 4

/-- R178: READ ITEM. -/
def readItemEffect (code : Octet) (s : State) : State × List Octet :=
  match readItemValue s.items s.calendar code with
  | .noItem => statusOnly .badItem (readItemLength code) s
  | .unset => statusOnly .empty (readItemLength code) s
  | .stored value => (s, respond .ok value)

/-- READ_ITEM (R178). -/
def execReadItem (code : Octet) (s : State) : Result := takeCommand (readItemEffect code) s

/-! ### READ STATUS (R185) -/

/-- READ_STATUS (R185). -/
def execReadStatus (s : State) : Result := takeCommand (fun s => (s, respond .ok (statusOctets s))) s

/-! ### The Cause Unit (R188, R189, R191) -/

/-- R188: the flag of the cause a read names is cleared, and no other. -/
def CauseUnit.readHighest (u : CauseUnit) : CauseUnit :=
  match u.highest with
  | some c => { u with pending := u.pending &&& ~~~c.mask }
  | none => u

/-- R188: the number a read returns, 0 for none. -/
def CauseUnit.highestNumber (u : CauseUnit) : Nat := (u.highest.map Cause.number).getD 0

/-- R188: READ CAUSE. -/
def readCauseEffect (s : State) : State × List Octet :=
  ({ s with causes := s.causes.readHighest },
    respond .ok (octets 1 s.causes.highestNumber ++ causeWord s.causes.readHighest.pending))

/-- READ_CAUSE (R188). -/
def execReadCause (s : State) : Result := takeCommand readCauseEffect s

/-- R189 to R191: the twelve controls replaced; a pulse in progress goes on only in PULSE mode with the master enable
on. -/
def CauseUnit.setControls (u : CauseUnit) (enables : BitVec 16) (master : Octet) (mode : IrqMode) : CauseUnit :=
  { u with
    enables := enables.extractLsb' 0 10
    master := master != 0
    mode := mode
    pulse := u.pulse && u.mode == .pulse && mode == .pulse && master != 0 }

/-- R189: SET ENABLES. -/
def setEnablesEffect (enables : BitVec 16) (master mode : Octet) (s : State) : State × List Octet :=
  match irqModeOfCode mode with
  | none => statusOnly .badValue 0 s
  | some m => ({ s with causes := s.causes.setControls enables master m }, respond .ok [])

/-- SET_ENABLES (R189). -/
def execSetEnables (enables : BitVec 16) (master mode : Octet) (s : State) : Result :=
  takeCommand (setEnablesEffect enables master mode) s

/-- IRQN_PULSE_END (R191). -/
def execIrqnPulseEnd (s : State) : Result :=
  takeEvent (fun s => { s with causes := { s.causes with pulse := false } }) s

end Sys2Proof.Machine
end

