-- ==== Sys2Proof/Config.lean ====
section
/-! DEFINITION. The free values: what the spec leaves open and the machine goes on with. They have no body, so nothing
can be proved of the value they give. `State.freeCount` is the argument, advanced whenever one is drawn. -/

namespace Sys2Proof.Config

/-- R136, first row: at the first window boundary the change from JOINING to RUNNING and the transmitter's notice
decision come in either order. `true`: the change is taken first, so the decision reads RUNNING. DESIGN CHOICE (log
entry 9): the order is a free value. -/
opaque joiningSeenRunning : Nat → Bool

/-- R2, R6: after a restart hold the four latest readings have status NONE and the spec gives no value to stand with it.
DESIGN CHOICE (log entry 10): a free value. -/
opaque noneReadingValue : Nat → BitVec 16

/-- R140, R141: the octet whose read-back TX_COLLISION names differs from the octet sent or lacks its stop bit, and the row
gives neither its value nor its stop bit. DESIGN CHOICE (log entry 33): both are free values. -/
opaque collidingOctet : Nat → BitVec 8

/-- The stop bit that stands with `collidingOctet`, `true` at mark. DESIGN CHOICE (log entry 33): a free value. -/
opaque collidingStopBit : Nat → Bool

end Sys2Proof.Config
end

