-- ==== Sys2Proof/Machine/Metering.lean ====
section
/-! DEFINITION. The Circuit Meters and the Temperature Converter (R1 to R21): FLOW_PULSE, CYCLE_EVENT,
CONVERTER_RESTART_END, RESET_CONVERTER and READ_TOTALS. -/

namespace Sys2Proof.Machine

/-! ### Flow pulses (R3) -/

/-- R3, R9: a present circuit's pulse counter rises by 1, saturating at 255; an ABSENT circuit does not count. -/
def CircuitMeter.countPulse (m : CircuitMeter) : CircuitMeter :=
  if m.state = .absent then m else { m with pulseCounter := min 255 (m.pulseCounter + 1) }

/-- One plant's meter changed. -/
def changeMeter (f : CircuitMeter → CircuitMeter) (p : Plant) (x : PerPlant CircuitMeter) : PerPlant CircuitMeter :=
  match p with
  | .heat => { x with heat := f x.heat }
  | .cool => { x with cool := f x.cool }

/-- FLOW_PULSE (R3). -/
def execFlowPulse (circuit : Plant) (s : State) : Result :=
  takeEvent (fun s => { s with meters := changeMeter CircuitMeter.countPulse circuit s.meters }) s

/-! ### The converter at a cycle event (R6, R8) -/

/-- R6: the three kinds of cycle event. -/
inductive EventKind where
  | backupHold
  | restartHold
  | conversion
  deriving DecidableEq, Repr

/-- R6, R8: in BACKUP the backup count runs 0, 7, 6, ... 1, 0, as the worked example after R175 counts it (DEDUCED, log
entry 11). -/
def nextBackupCount (mode : SupplyMode) (count : Nat) : Nat :=
  if mode = .backup then (count + 7) % 8 else count

/-- R6: the kind of a cycle event, from the supply mode, the backup count after the event and the converter state. -/
def eventKind (mode : SupplyMode) (backupAfter : Nat) (state : ConverterState) : EventKind :=
  if mode = .backup ∧ backupAfter ≠ 0 then .backupHold
  else if state = .restarting then .restartHold
  else .conversion

/-- The four readings delivered together (R5). -/
structure Readings where
  hs : Reading
  hr : Reading
  cs : Reading
  cr : Reading
  deriving DecidableEq, Repr

/-- R6: the latest readings after a restart hold: status NONE, the values free (DESIGN CHOICE, log entry 10). -/
def noReadings (draw : Nat) : Readings :=
  { hs := { value := (Config.noneReadingValue draw).toInt, status := .noReading }
    hr := { value := (Config.noneReadingValue (draw + 1)).toInt, status := .noReading }
    cs := { value := (Config.noneReadingValue (draw + 2)).toInt, status := .noReading }
    cr := { value := (Config.noneReadingValue (draw + 3)).toInt, status := .noReading } }

/-- R6: the converter after a cycle event of a kind. In RESTARTING the restart count falls by 1 at every cycle event;
when it reaches 0 the converter returns to RUNNING after the event, at CONVERTER_RESTART_END. -/
def Converter.cycle (c : Converter) (kind : EventKind) (backupAfter : Nat) (delivered : Readings) (draw : Nat) :
    Converter :=
  let latest : Readings :=
    match kind with
    | .backupHold => { hs := c.hs, hr := c.hr, cs := c.cs, cr := c.cr }
    | .restartHold => noReadings draw
    | .conversion => delivered
  { c with
    restartCount := if c.state = .restarting then c.restartCount - 1 else c.restartCount
    backupCount := backupAfter
    hs := latest.hs, hr := latest.hr, cs := latest.cs, cr := latest.cr }

/-! ### A circuit at a cycle event (R4, R10 to R19) -/

/-- R10: each valid reading of a conversion event is stored as its channel's held temperature and sets its mark. -/
def CircuitMeter.storeValid (m : CircuitMeter) (supply ret : Reading) : CircuitMeter :=
  { m with
    heldSupply := if supply.isValid then supply.value else m.heldSupply
    supplyValid := m.supplyValid || supply.isValid
    heldReturn := if ret.isValid then ret.value else m.heldReturn
    returnValid := m.returnValid || ret.isValid }

/-- R11 to R13: the transition of a present circuit at a conversion event whose readings are both valid or not. -/
def CircuitMeter.transition (m : CircuitMeter) (bothValid : Bool) : CircuitMeter :=
  match m.state, bothValid with
  | .absent, _ => m
  | .normal, true => m
  | .normal, false => { m with state := .holding, holdCount := 1 }
  | .holding, true => { m with state := .normal, holdCount := 0 }
  | .holding, false =>
    if m.holdCount + 1 < 8 then { m with holdCount := m.holdCount + 1 }
    else { m with state := .fault, holdCount := 8, goodRun := 0 }
  | .fault, true =>
    if m.goodRun = 0 then { m with goodRun := 1 } else { m with state := .normal, holdCount := 0, goodRun := 0 }
  | .fault, false => { m with goodRun := 0 }

/-- R11 to R14, R19: the flags an event of a kind sets, by the state after its transition. -/
def holdFlags (kind : EventKind) (state : CircuitState) : OwnFlags :=
  match kind, state with
  | .conversion, .holding => { OwnFlags.clear with estimated := true }
  | .conversion, .fault => { OwnFlags.clear with faulted := true }
  | .conversion, .normal | .conversion, .absent => .clear
  | .restartHold, .fault => { OwnFlags.clear with faulted := true }
  | .restartHold, .normal | .restartHold, .holding => { OwnFlags.clear with estimated := true }
  | .restartHold, .absent => .clear
  | .backupHold, .fault => { OwnFlags.clear with faulted := true, backup := true }
  | .backupHold, .normal | .backupHold, .holding => { OwnFlags.clear with backup := true }
  | .backupHold, .absent => .clear

/-- R16: the raw difference in cK, by the direction of the circuit. -/
def rawDifference (circuit : Plant) (supply ret : Int) : Int :=
  match circuit with
  | .heat => supply - ret
  | .cool => ret - supply

/-- R17: the effective difference. A raw difference below 0 lies below every cutoff. -/
def effectiveDifference (cutoff : Nat) (raw : Int) : Nat :=
  if raw < cutoff then 0 else if 10000 < raw then 10000 else raw.toNat

/-- R18: N = V × ΔT × 4186 + residue. -/
def energyUnits (volume difference residue : Nat) : Nat := volume * difference * 4186 + residue

/-- What one circuit's cycle gives the OPEN entry (R20) and the Cause Unit. -/
structure CycleResult where
  energy : Nat
  metered : Nat
  unmetered : Nat
  flags : OwnFlags
  reverse : Nat
  sensorFault : Bool
  overrange : Bool
  deriving DecidableEq, Repr

/-- Nothing given, as of an ABSENT circuit (R9). -/
def CycleResult.nothing : CycleResult :=
  { energy := 0, metered := 0, unmetered := 0, flags := .clear, reverse := 0, sensorFault := false, overrange := false }

/-- R15: the cycle of a meter after its transition computes energy where its state is NORMAL or HOLDING and both channels
have an ever-valid mark. A channel with a fresh valid reading has one, and its held temperature is that reading (R10),
so the temperatures in use are the held ones throughout. -/
def CircuitMeter.computesEnergy (m : CircuitMeter) : Bool :=
  (m.state == .normal || m.state == .holding) && m.supplyValid && m.returnValid

/-- R21: the lifetime registers after a cycle, wrapping at 64 bits. -/
def CircuitMeter.addLifetime (m : CircuitMeter) (energy volume : Nat) : CircuitMeter :=
  { m with
    lifetimeEnergy := (m.lifetimeEnergy + energy) % 2 ^ 64
    lifetimeVolume := (m.lifetimeVolume + volume) % 2 ^ 64 }

/-- R15 to R19: the accounting of a cycle of a present circuit, after the transition of its event. -/
def CircuitMeter.account (m : CircuitMeter) (circuit : Plant) (weight cutoff : Nat) (kind : EventKind)
    (entersFault : Bool) : CircuitMeter × CycleResult :=
  let volume := m.latched * weight
  let beyond := m.latched == 255
  let flags : OwnFlags :=
    (holdFlags kind m.state).union { OwnFlags.clear with overrange := beyond, estimated := beyond }
  if m.computesEnergy then
    if volume = 0 then
      (m, { CycleResult.nothing with flags := flags, sensorFault := entersFault, overrange := beyond })
    else
      let raw := rawDifference circuit m.heldSupply m.heldReturn
      let units := energyUnits volume (effectiveDifference cutoff raw) m.residue
      ({ m with residue := units % 100000 }.addLifetime (units / 100000) volume,
        { energy := units / 100000, metered := volume, unmetered := 0
          flags := flags.union { OwnFlags.clear with estimated := decide (10000 < raw) }
          reverse := if raw < 0 then 1 else 0, sensorFault := entersFault, overrange := beyond })
  else
    (m.addLifetime 0 volume,
      { CycleResult.nothing with
        unmetered := volume, flags := flags, sensorFault := entersFault, overrange := beyond })

/-- R4: the pulse counter is latched and restarts at 0. -/
def CircuitMeter.latch (m : CircuitMeter) : CircuitMeter := { m with latched := m.pulseCounter, pulseCounter := 0 }

/-- R4, R9 to R21: one circuit's part of a cycle event. -/
def CircuitMeter.cycle (m : CircuitMeter) (circuit : Plant) (weight cutoff : Nat) (kind : EventKind)
    (supply ret : Reading) : CircuitMeter × CycleResult :=
  if m.state = .absent then (m, .nothing)
  else
    match kind with
    | .conversion =>
      let moved := (m.latch.storeValid supply ret).transition (supply.isValid && ret.isValid)
      moved.account circuit weight cutoff kind (m.state != .fault && moved.state == .fault)
    | .restartHold | .backupHold => m.latch.account circuit weight cutoff kind false

/-- R20: a circuit's results added to its plant's own part of the OPEN entry. -/
def OwnPart.accrue (o : OwnPart) (r : CycleResult) : OwnPart :=
  { o with
    energy := o.energy + r.energy
    metered := o.metered + r.metered
    unmetered := o.unmetered + r.unmetered
    flags := o.flags.union r.flags }

/-- R20: the OPEN entry after a cycle event. -/
def WindowEntry.accrue (e : WindowEntry) (heat cool : CycleResult) : WindowEntry :=
  { e with
    own := { heat := e.own.heat.accrue heat, cool := e.own.cool.accrue cool }
    reverseCount := e.reverseCount + heat.reverse + cool.reverse }

/-- R173: in RECOVERING each cycle event lowers the recovery count by 1. -/
def Station.countRecovery (s : Station) : Station :=
  if s.supplyMode = .recovering then { s with recoveryCount := s.recoveryCount - 1 } else s

/-- R4 to R21, R27: the effect of a cycle event that the Timebase has issued. -/
def State.cycle (hs hr cs cr : Sensor) (s : State) : State :=
  let backupAfter := nextBackupCount s.station.supplyMode s.converter.backupCount
  let kind := eventKind s.station.supplyMode backupAfter s.converter.state
  let delivered : Readings :=
    { hs := sensorReading hs, hr := sensorReading hr, cs := sensorReading cs, cr := sensorReading cr }
  let heat := s.meters.heat.cycle .heat s.items.pulse.heat s.items.dtCutoff kind delivered.hs delivered.hr
  let cool := s.meters.cool.cycle .cool s.items.pulse.cool s.items.dtCutoff kind delivered.cs delivered.cr
  let counted : State :=
    { s with
      timebase := { s.timebase with due := { s.timebase.due with cycleEvent := false } }
      converter := s.converter.cycle kind backupAfter delivered s.freeCount
      freeCount := if kind = .restartHold then s.freeCount + 4 else s.freeCount
      meters := { heat := heat.1, cool := cool.1 }
      windows := { s.windows with openEntry := s.windows.openEntry.map fun e => e.accrue heat.2 cool.2 }
      station := s.station.countRecovery }
  (counted.raiseIf (heat.2.overrange || cool.2.overrange) .flowOverrange).raiseIf
    (heat.2.sensorFault || cool.2.sensorFault) .sensorFault

/-- CYCLE_EVENT (R27), taken where the Timebase has issued one. -/
def execCycleEvent (hs hr cs cr : Sensor) (s : State) : Result :=
  takeEvent (fun s => if s.timebase.due.cycleEvent then s.cycle hs hr cs cr else s) s

/-- R6: the converter has counted its restart down to 0 and has not yet returned to RUNNING. -/
def State.restartEnds (s : State) : Bool := s.converter.state == .restarting && s.converter.restartCount == 0

/-- CONVERTER_RESTART_END (R6). -/
def execConverterRestartEnd (s : State) : Result :=
  takeEvent
    (fun s => if s.restartEnds then { s with converter := { s.converter with state := .running } } else s) s

/-- R7: RESET CONVERTER on a commissioned station. -/
def resetConverterEffect (s : State) : State × List Octet :=
  ({ s with converter := { s.converter with state := .restarting, restartCount := 2 } }, respond .ok [])

/-- RESET_CONVERTER (R7). -/
def execResetConverter (s : State) : Result := takeCommand (commissionedOnly 0 resetConverterEffect) s

/-- READ_TOTALS (R21). -/
def execReadTotals (s : State) : Result := takeCommand (fun s => (s, respond .ok (totalsOctets s))) s

end Sys2Proof.Machine
end

