-- ==== Sys2Proof/Machine/Records.lean ====
section
/-! DEFINITION. Settlement Records and the Record Queue (R94 to R108): building a record, its costs, merging in the overflow
slot, and the commands SNAPSHOT, FETCH_RECORD, RELEASE_RECORD and CLEAR_QUEUE. -/

namespace Sys2Proof.Machine

/-! ### Building a record (R94 to R97) -/

/-- R96: the four rounded band terms added. -/
def costSum (bands rates : PerBand Nat) : Nat :=
  ((PerBand.zip (fun e r => roundHalfUp (e * r) 3600000) bands rates).toList).sum

/-- R97: a cost held at 2^48 - 1. -/
def costOf (bands rates : PerBand Nat) : Nat := min (maxOf 48) (costSum bands rates)

/-- R97: whether some cost of the figures would exceed its field. -/
def costsOver (i : Items) (f : Figures) : Bool :=
  decide (maxOf 48 < costSum f.energy.heat i.rate.heat) || decide (maxOf 48 < costSum f.energy.cool i.rate.cool)
    || decide (maxOf 48 < costSum f.commonShare.heat i.rate.heat)
    || decide (maxOf 48 < costSum f.commonShare.cool i.rate.cool)

/-- R95, R98: a record built from a context, with the receive error counts its kind takes. -/
def buildRecord (kind : RecordKind) (i : Items) (c : PeriodContext) (rx : RxErrors) : Record :=
  { kind := kind, address := i.address, role := i.role, firstDay := c.day, lastDay := c.day, mergedCount := 1,
    partialDay := c.partialDay, saturated := c.saturated || costsOver i c.figures, figures := c.figures,
    rxErrors := rx, energyCost := .zip costOf c.figures.energy i.rate,
    commonCost := .zip costOf c.figures.commonShare i.rate }

/-! ### Merging in the overflow slot (R102) -/

/-- R102: the kept peak: the one with the greater complex demand, on a tie the older; an absent peak compares as 0. -/
def mergePeak (older newer : Option Peak) : Option Peak :=
  match older, newer with
  | none, n => n
  | some o, none => some o
  | some o, some n => if o.complexDemand < n.complexDemand then some n else some o

/-- Each field of a sum as its width and two terms, so that the sum and its overflow are formed from one listing. -/
def figureTerms (a b : Figures) : List (Nat × Nat × Nat) :=
  let bands (x y : PerPlant (PerBand Nat)) : List (Nat × Nat × Nat) :=
    (x.heat.toList.zip y.heat.toList ++ x.cool.toList.zip y.cool.toList).map fun p => (48, p.1, p.2)
  bands a.energy b.energy ++ bands a.commonShare b.commonShare
    ++ [(48, a.complexEnergy.heat, b.complexEnergy.heat), (48, a.complexEnergy.cool, b.complexEnergy.cool),
        (48, a.unmetered, b.unmetered), (32, a.reverseCount, b.reverseCount),
        (16, a.counts.closed, b.counts.closed), (16, a.counts.complete, b.counts.complete),
        (16, a.counts.estimated, b.counts.estimated), (16, a.counts.faulted, b.counts.faulted),
        (16, a.counts.backup, b.counts.backup), (16, a.counts.partialWindows, b.counts.partialWindows),
        (16, a.counts.unapportioned, b.counts.unapportioned),
        (16, a.counts.contributorsHeard, b.counts.contributorsHeard),
        (16, a.counts.estimatedContributors, b.counts.estimatedContributors),
        (16, a.dispositions.late, b.dispositions.late), (16, a.dispositions.duplicate, b.dispositions.duplicate),
        (16, a.dispositions.farAhead, b.dispositions.farAhead), (16, a.addressClashes, b.addressClashes)]

/-- R102: the sums of two records' figures, each saturating on its own, and the kept peaks. -/
def mergeFigures (a b : Figures) : Figures :=
  { energy := .zip (.zip (satAdd 48)) a.energy b.energy
    commonShare := .zip (.zip (satAdd 48)) a.commonShare b.commonShare
    complexEnergy := .zip (satAdd 48) a.complexEnergy b.complexEnergy
    peak := .zip mergePeak a.peak b.peak
    unmetered := satAdd 48 a.unmetered b.unmetered
    reverseCount := satAdd 32 a.reverseCount b.reverseCount
    counts :=
      { closed := satAdd 16 a.counts.closed b.counts.closed
        complete := satAdd 16 a.counts.complete b.counts.complete
        estimated := satAdd 16 a.counts.estimated b.counts.estimated
        faulted := satAdd 16 a.counts.faulted b.counts.faulted
        backup := satAdd 16 a.counts.backup b.counts.backup
        partialWindows := satAdd 16 a.counts.partialWindows b.counts.partialWindows
        unapportioned := satAdd 16 a.counts.unapportioned b.counts.unapportioned
        contributorsHeard := satAdd 16 a.counts.contributorsHeard b.counts.contributorsHeard
        estimatedContributors := satAdd 16 a.counts.estimatedContributors b.counts.estimatedContributors }
    dispositions :=
      { late := satAdd 16 a.dispositions.late b.dispositions.late
        duplicate := satAdd 16 a.dispositions.duplicate b.dispositions.duplicate
        farAhead := satAdd 16 a.dispositions.farAhead b.dispositions.farAhead }
    addressClashes := satAdd 16 a.addressClashes b.addressClashes }

/-- R102: the sums of two records' receive error counts. -/
def mergeRxErrors (a b : RxErrors) : RxErrors :=
  { framing := satAdd 16 a.framing b.framing, stray := satAdd 16 a.stray b.stray,
    length := satAdd 16 a.length b.length, crc := satAdd 16 a.crc b.crc }

/-- R102, R103: whether any field saturates in the merge of two records, an amount of it being held back. -/
def mergeSaturates (older newer : Record) : Bool :=
  (figureTerms older.figures newer.figures
    ++ [(16, older.mergedCount, 1),
        (16, older.rxErrors.framing, newer.rxErrors.framing), (16, older.rxErrors.stray, newer.rxErrors.stray),
        (16, older.rxErrors.length, newer.rxErrors.length), (16, older.rxErrors.crc, newer.rxErrors.crc),
        (48, older.energyCost.heat, newer.energyCost.heat), (48, older.energyCost.cool, newer.energyCost.cool),
        (48, older.commonCost.heat, newer.commonCost.heat), (48, older.commonCost.cool, newer.commonCost.cool)]).any
    fun t => sumOver t.1 t.2.1 t.2.2

/-- R102: a newer FINAL record merged into the overflow slot's record. -/
def mergeRecords (older newer : Record) : Record :=
  { kind := .merged, address := older.address, role := older.role, firstDay := older.firstDay,
    lastDay := newer.lastDay, mergedCount := bump older.mergedCount,
    partialDay := older.partialDay || newer.partialDay,
    saturated := older.saturated || newer.saturated || mergeSaturates older newer,
    figures := mergeFigures older.figures newer.figures, rxErrors := mergeRxErrors older.rxErrors newer.rxErrors,
    energyCost := .zip (satAdd 48) older.energyCost newer.energyCost,
    commonCost := .zip (satAdd 48) older.commonCost newer.commonCost }

/-! ### The queue (R100, R101) -/

/-- R100: the places of the Record Queue. -/
def queuePlaces : Nat := 8

/-- R100: the alert threshold, 8 - QUEUE_ALERT_LEVEL. -/
def State.alertThreshold (s : State) : Nat := queuePlaces - s.items.queueAlertLevel

/-- R100: a record enters the queue at the tail; RECORD_READY is raised, and QUEUE_ALERT where the level rises to the
threshold. -/
def State.enqueue (r : Record) (s : State) : State :=
  ({ s with records := { s.records with queue := s.records.queue ++ [r] } }.raise .recordReady).raiseIf
    (s.records.queue.length + 1 == s.alertThreshold) .queueAlert

/-- R101: a FINAL record offered to the queue. -/
def State.offerFinal (r : Record) (s : State) : State :=
  if s.records.queue.length < queuePlaces then s.enqueue r
  else
    { s with
      records :=
        { s.records with
          overflow :=
            some (match s.records.overflow with
              | none => r
              | some older => mergeRecords older r) } }.raise .queueOverrun

/-! ### The commands -/

/-- R98: SNAPSHOT on a commissioned station. -/
def snapshotEffect (s : State) : State × List Octet :=
  if queuePlaces ≤ s.records.queue.length then statusOnly .queueFull 0 s
  else
    match s.contexts.current with
    | some c => (s.enqueue (buildRecord .interim s.items c s.receiver.errors), respond .ok [])
    | none => statusOnly .notNow 0 s

/-- R104: FETCH RECORD. -/
def fetchEffect (s : State) : State × List Octet :=
  match s.records.queue with
  | r :: _ => (s, respond .ok r.octets)
  | [] => statusOnly .empty recordLength s

/-- R104: RELEASE RECORD removes the head and moves the overflow slot's record to the tail. -/
def releaseEffect (s : State) : State × List Octet :=
  match s.records.queue with
  | [] => statusOnly .empty 0 s
  | _ :: rest =>
    match s.records.overflow with
    | none => ({ s with records := { s.records with queue := rest } }, respond .ok [])
    | some r =>
      ({ s with records := { s.records with queue := rest, overflow := none } }.enqueue r, respond .ok [])

/-- R105: the records CLEAR QUEUE removes, the slot's record counting as one. -/
def RecordQueue.held (q : RecordQueue) : Nat := q.queue.length + if q.overflow.isSome then 1 else 0

/-- R105: CLEAR QUEUE. -/
def clearQueueEffect (s : State) : State × List Octet :=
  ({ s with
      records := { queue := [], overflow := none, discarded := satAdd 16 s.records.discarded s.records.held } },
    respond .ok [])

/-- SNAPSHOT (R98). -/
def execSnapshot (s : State) : Result := takeCommand (commissionedOnly 0 snapshotEffect) s

/-- FETCH_RECORD (R104). -/
def execFetchRecord (s : State) : Result := takeCommand fetchEffect s

/-- RELEASE_RECORD (R104). -/
def execReleaseRecord (s : State) : Result := takeCommand releaseEffect s

/-- CLEAR_QUEUE (R105). -/
def execClearQueue (s : State) : Result := takeCommand clearQueueEffect s

end Sys2Proof.Machine
end

