-- ==== Sys2Proof/Machine/Timebase.lean ====
section
/-! DEFINITION. The Timebase (R22 to R35): COUNTED_SECOND_END, SLEW_STEP, SET_CLOCK, TRIM_CLOCK, and the time that passes
while no command waits. -/

namespace Sys2Proof.Machine

/-! ### The end of a counted second (R24 to R30, R34) -/

/-- R24: second-of-day and day number after the end of a counted second. -/
def Timebase.advanceSecond (t : Timebase) : Timebase :=
  if 86400 ≤ t.secondOfDay + 1 then
    { t with secondFraction := 0, secondOfDay := 0, day := (t.day + 1) % 65536 }
  else { t with secondFraction := 0, secondOfDay := t.secondOfDay + 1 }

/-- R34: a second that was slewed and whose sign agrees with slew remaining at its end is counted; the eighth makes a slew
step due. -/
def Timebase.countSlew (t : Timebase) : Timebase :=
  if t.secondLength ≠ .nominal ∧ t.secondLength = lengthForSlew t.slewRemaining then
    if t.slewCount + 1 < 8 then { t with slewCount := t.slewCount + 1 }
    else { t with due := { t.due with slewStep := true } }
  else t

/-- R25: the length of the second that now starts. -/
def Timebase.fixLength (t : Timebase) : Timebase := { t with secondLength := lengthForSlew t.slewRemaining }

/-- R27: the cycle phase; a cycle event is issued when it returns to 0. -/
def Timebase.advanceCycle (t : Timebase) : Timebase :=
  if 2 ≤ t.cyclePhase + 1 then { t with cyclePhase := 0, due := { t.due with cycleEvent := true } }
  else { t with cyclePhase := t.cyclePhase + 1 }

/-- R28, R29: a window boundary issued; at the day's last window a day boundary with it. -/
def Timebase.issueBoundary (t : Timebase) (l : WindowLength) : Timebase :=
  if l.perDay ≤ t.windowInDay + 1 then
    { t with
      secondsInWindow := 0, windowInDay := 0, due := { t.due with windowBoundary := true, dayBoundary := true } }
  else
    { t with
      secondsInWindow := 0, windowInDay := t.windowInDay + 1, due := { t.due with windowBoundary := true } }

/-- R28, R30: seconds-in-window; a boundary is issued when it reaches T, a grace expiry when it reaches the clamped grace
with grace ARMED. -/
def Timebase.advanceWindow (t : Timebase) (l : WindowLength) (grace : Nat) : Timebase :=
  if l.seconds ≤ t.secondsInWindow + 1 then t.issueBoundary l
  else if t.graceArmed ∧ t.secondsInWindow + 1 = grace then
    { t with secondsInWindow := t.secondsInWindow + 1, due := { t.due with graceExpiry := true } }
  else { t with secondsInWindow := t.secondsInWindow + 1 }

/-- R24, R25: the end of a counted second. -/
def Timebase.endSecond (t : Timebase) (l : WindowLength) (grace : Nat) : Timebase :=
  let counted := t.countSlew.advanceSecond.fixLength
  if t.boundaryOn then counted.advanceCycle.advanceWindow l grace else counted

/-- R173: the recovery count has reached 0 and the return to MAINS is due. -/
def State.recoveryEnds (s : State) : Bool := s.station.supplyMode == .recovering && s.station.recoveryCount == 0

/-- Some event of the last counted second's end has not been taken yet (log entry 2). -/
def State.outstanding (s : State) : Bool :=
  s.timebase.due.slewStep || s.timebase.due.cycleEvent || s.timebase.due.windowBoundary || s.timebase.due.dayBoundary
    || s.timebase.due.graceExpiry || s.restartEnds || s.recoveryEnds

/-- COUNTED_SECOND_END (R25): the Timebase counts while the clock is VALID. The events a second's end issues are taken
before the next second ends. -/
def execCountedSecondEnd (s : State) : Result :=
  takeEvent
    (fun s =>
      if s.timebase.clockValid && !s.outstanding then
        { s with timebase := s.timebase.endSecond s.items.length s.items.grace }
      else s) s

/-- R34: slew remaining moves one second toward 0 and the slew count returns to 0. -/
def Timebase.slewStep (t : Timebase) : Timebase :=
  Timebase.fixLength
    { t with
      slewCount := 0, slewRemaining := t.slewRemaining - t.slewRemaining.sign,
      due := { t.due with slewStep := false } }

/-- A slew step that is due has been taken (log entry 4). -/
def Timebase.settleSlew (t : Timebase) : Timebase := if t.due.slewStep then t.slewStep else t

/-- SLEW_STEP (R34). -/
def execSlewStep (s : State) : Result := takeEvent (fun s => { s with timebase := s.timebase.settleSlew }) s

/-! ### SET CLOCK and TRIM CLOCK (R23, R33) -/

/-- R23: SET CLOCK in UNCONFIGURED. -/
def setClockEffect (day : BitVec 16) (second : BitVec 24) (s : State) : State × List Octet :=
  if 86399 < second.toNat then statusOnly .badValue 0 s
  else
    ({ s with
        timebase :=
          { s.timebase with
            clockValid := true, day := day.toNat, secondOfDay := second.toNat, secondFraction := 0 } },
      respond .ok [])

/-- SET_CLOCK (R23). -/
def execSetClock (day : BitVec 16) (second : BitVec 24) (s : State) : Result :=
  takeCommand (unconfiguredOnly 0 (setClockEffect day second)) s

/-- R33: the argument clamped to -120..+120. -/
def trimArgument (seconds : Int) : Int := clampInt (-120) 120 seconds

/-- R33: slew remaining after a trim, clamped to -120..+120. -/
def trimmedSlew (slew seconds : Int) : Int := clampInt (-120) 120 (slew + trimArgument seconds)

/-- R33: the Timebase after a trim: the slew count is cleared where the new slew remaining is 0 or reversed. -/
def Timebase.trim (t : Timebase) (seconds : Int) : Timebase :=
  { t with
    slewRemaining := trimmedSlew t.slewRemaining seconds
    slewCount :=
      if trimmedSlew t.slewRemaining seconds = 0 ∨ trimmedSlew t.slewRemaining seconds * t.slewRemaining < 0 then 0
      else t.slewCount }

/-- R33: CLAMPED if either clamp changed a value. -/
def trimStatus (slew seconds : Int) : Status :=
  if trimArgument seconds = seconds ∧ trimmedSlew slew seconds = slew + trimArgument seconds then .ok else .clamped

/-- R33: TRIM CLOCK on a commissioned station; a trim of 0 changes nothing. -/
def trimClockEffect (seconds : BitVec 8) (s : State) : State × List Octet :=
  if seconds.toInt = 0 then (s, respond .ok [])
  else
    ({ s with timebase := s.timebase.settleSlew.trim seconds.toInt },
      respond (trimStatus s.timebase.slewSettled seconds.toInt) [])

/-- TRIM_CLOCK (R33). -/
def execTrimClock (seconds : BitVec 8) (s : State) : Result :=
  takeCommand (commissionedOnly 0 (trimClockEffect seconds)) s

/-! ### Time while no command waits (log entry 6) -/

/-- R112: the gap timer is counting up: the receiver is on and its source rests at mark. -/
def State.gapRuns (s : State) : Bool :=
  s.receiverOn && !s.receiver.charInProgress && !s.sourceAtSpace && decide (s.receiver.gapTimer < 4)

/-- R143: the stuck timer is counting up. -/
def State.stuckRuns (s : State) : Bool :=
  s.transmitter.state == .waitIdle && s.receiverOn && decide (s.transmitter.stuckTimer < stuckLimit)

/-- A character time can pass without one of the table's events: no event is outstanding, no frame waits to be judged, no
pulse is in progress, and no running timer would reach its end, which is the row of that event. -/
def State.characterTimePasses (s : State) : Bool :=
  let unit := s.items.lineRate.characterTime
  s.rstnHigh && !s.outstanding && !frameComplete s.receiver.frame && !s.causes.pulse
    && (!s.timebase.clockValid || decide (s.timebase.secondFraction + unit < s.timebase.secondLength.units))
    && (!s.gapRuns || decide (s.receiver.gapTimer + 1 < 4))
    && (s.transmitter.state != .backoff || decide (1 < s.transmitter.backoffSlots))
    && (!s.stuckRuns || decide (s.transmitter.stuckTimer + unit < stuckLimit))

/-- One character time at the line rate passes with no command waiting: the second fraction (R22), the gap timer (R112),
the backoff slots (R137) and the stuck timer (R143) advance where they run. DESIGN CHOICE (log entry 6). -/
def State.tick (s : State) : State :=
  if s.characterTimePasses then
    let unit := s.items.lineRate.characterTime
    { s with
      timebase :=
        { s.timebase with
          secondFraction :=
            if s.timebase.clockValid then s.timebase.secondFraction + unit else s.timebase.secondFraction }
      receiver := { s.receiver with gapTimer := if s.gapRuns then s.receiver.gapTimer + 1 else s.receiver.gapTimer }
      transmitter :=
        { s.transmitter with
          backoffSlots :=
            if s.transmitter.state = .backoff then s.transmitter.backoffSlots - 1 else s.transmitter.backoffSlots
          stuckTimer := if s.stuckRuns then s.transmitter.stuckTimer + unit else s.transmitter.stuckTimer } }
  else s

end Sys2Proof.Machine
end

