-- ==== Sys2Proof/Machine/StationControl.lean ====
section
/-! DEFINITION. The Station Controller (R164 to R180): COMMISSION, QUIET, SPEAK, RESET, RSTN_FALLING, RSTN_RISING,
PFAILN_FALLING, PFAILN_RISING and RECOVERY_END. -/

namespace Sys2Proof.Machine

/-! ### COMMISSION (R166, R167) -/

/-- R166: COMMISSION's own condition. -/
def State.complete (s : State) : Bool :=
  s.timebase.clockValid && s.items.stationAddress.isSome && s.items.role.isSome && s.items.windowLength.isSome

/-- R26: GRACE clamped to half the window length. -/
def Items.clampGrace (i : Items) : Items := { i with grace := min i.grace (i.length.seconds / 2) }

/-- R26: the Timebase at COMMISSION. -/
def Timebase.commission (t : Timebase) (l : WindowLength) : Timebase :=
  { t with
    windowInDay := t.secondOfDay / l.seconds, secondsInWindow := t.secondOfDay % l.seconds,
    cyclePhase := t.secondOfDay % 2, graceArmed := false, boundaryOn := true }

/-- R1: a circuit meter at COMMISSION. -/
def CircuitMeter.commission (m : CircuitMeter) (present : Bool) : CircuitMeter :=
  { CircuitMeter.reset with
    state := if present then .normal else .absent
    lifetimeEnergy := m.lifetimeEnergy
    lifetimeVolume := m.lifetimeVolume }

/-- R2: the converter at COMMISSION. -/
def Converter.commission (c : Converter) : Converter :=
  { c with state := .restarting, restartCount := 1, backupCount := 0 }

/-- R44: the own part of the commissioning window, PARTIAL for a present plant. -/
def OwnPart.commission (present : Bool) : OwnPart :=
  { OwnPart.fresh with flags := { OwnFlags.clear with partialWindow := present } }

/-- R44: the Window Table at COMMISSION. -/
def WindowTable.commission (c : CircuitsItem) (l : WindowLength) (index : Nat) : WindowTable :=
  { graceEntry := none
    openEntry :=
      some { WindowEntry.fresh index with
             own := { heat := .commission (c.includes .heat), cool := .commission (c.includes .cool) } }
    aheadEntry := some (.fresh (indexAfter l index 1))
    closedReport := none }

/-- R90: the Period Contexts at COMMISSION. -/
def Contexts.commission (day : Nat) : Contexts :=
  { current := some { day := day, partialDay := true, saturated := false, figures := .fresh, rxSnapshot := none }
    closing := none }

/-- R167, actions 1 to 4 and 7: the blocks other than the line at COMMISSION. -/
def State.commissionBlocks (s : State) : State :=
  let items := s.items.clampGrace
  let timebase := s.timebase.commission items.length
  { s with
    items := items
    timebase := timebase
    station :=
      { s.station with
        state := .joining, commissioned := true, digest := settingsDigest items s.calendar, skew := .noSkew }
    windows :=
      .commission items.circuits items.length (globalIndex items.length timebase.day timebase.windowInDay)
    contexts := .commission timebase.day
    meters :=
      { heat := s.meters.heat.commission (items.circuits.includes .heat)
        cool := s.meters.cool.commission (items.circuits.includes .cool) }
    converter := s.converter.commission }

/-- R113, R148, R167, action 5: the line at COMMISSION: mode OFF, any Line Test dropped, the receiver on in MAINS. -/
def State.commissionLine (s : State) : State :=
  let dropped := s.dropLineTest
  { dropped with transmitter := { dropped.transmitter with testMode := .off } }.restartReceiver

/-- R166, R167: COMMISSION in UNCONFIGURED. -/
def commissionEffect (s : State) : State × List Octet :=
  if s.complete then (s.commissionBlocks.commissionLine.requestNotice .joining, respond .ok [])
  else statusOnly .incomplete 0 s

/-- COMMISSION (R167). -/
def execCommission (s : State) : Result := takeCommand (unconfiguredOnly 0 commissionEffect) s

/-! ### QUIET and SPEAK (R169, R171) -/

/-- The station put in a state of R164. -/
def State.enter (state : StationState) (s : State) : State := { s with station := { s.station with state := state } }

/-- R169: QUIET in RUNNING, QUIETING and QUIET. -/
def quietEffect (s : State) : State × List Octet :=
  if s.station.state = .quiet then (s, respond .ok [])
  else ((s.enter .quieting).requestNotice .quiet, respond .ok [])

/-- QUIET (R169). -/
def execQuiet (s : State) : Result := takeCommand (afterJoiningOnly 0 quietEffect) s

/-- R171: SPEAK in the commissioned states. -/
def speakEffect (s : State) : State × List Octet :=
  if s.station.state = .quieting ∨ s.station.state = .quiet then
    ((s.enter .running).requestNotice .running, respond .ok [])
  else (s, respond .ok [])

/-- SPEAK (R171). -/
def execSpeak (s : State) : Result := takeCommand (commissionedOnly 0 speakEffect) s

/-! ### The full reset (R179, R180) -/

/-- RESET (R179): taken as a host command; the rest of its transaction shifts out 0x00 and the port waits for SSN to
rise. -/
def execReset (s : State) : Result := .next (if s.rstnHigh && s.port.phase == .opened then s.fullReset else s)

/-- RSTN_FALLING (R179): the full reset begins and holds. -/
def execRstnFalling (s : State) : Result :=
  .next (if s.rstnHigh then { s.fullReset with rstnHigh := false } else s)

/-- RSTN_RISING (R179): the station runs from the full-reset values. -/
def execRstnRising (s : State) : Result :=
  .next (if s.rstnHigh then s else { s.fullReset with rstnHigh := true })

/-! ### Supply modes (R145, R173, R174) -/

/-- R145: the report slot's frame stays at the entry to BACKUP: a Window Report that has not expired. -/
def ReportSlot.staysInBackup (r : ReportSlot) : Bool :=
  match r.content with
  | .windowReport _ => !r.expired
  | .lineTest _ => false

/-- R145: the report slot after the entry to BACKUP. -/
def Transmitter.reportInBackup (t : Transmitter) : Option ReportSlot := t.report.filter ReportSlot.staysInBackup

/-- R145: the transmitter after the entry to BACKUP: WAIT_IDLE with the report if one remains, IDLE otherwise. -/
def Transmitter.enterBackup (t : Transmitter) : Transmitter :=
  let emptied : Transmitter :=
    { t with
      report := t.reportInBackup, notice := none, followOn := none, backoffSlots := 0, readBack := .matched 0,
      lastFailure := if t.report.isSome || t.notice.isSome then .abortedBySupply else t.lastFailure }
  if t.reportInBackup.isSome then { emptied with state := .waitIdle, current := some .report } else emptied.becomeIdle

/-- R145: the dropped notice, or its follow-on, announces QUIET. -/
def Transmitter.announcesQuiet (t : Transmitter) : Bool :=
  t.followOn == some .quiet || (t.notice.map fun n => n.notice.announced) == some .quiet

/-- R63, R145: an expired report withdrawn at the entry to BACKUP leaves its closed-report record STALE. -/
def State.withdrawExpired (s : State) : State :=
  if (s.transmitter.report.map fun r => r.expired) = some true then s.settleClosedReport .stale else s

/-- R145, R170: the end of the QUIET notice, where the queue being dropped announces QUIET. -/
def State.quietNoticeDropped (s : State) : State := if s.transmitter.announcesQuiet then s.endOfQuietNotice else s

/-- R173, R174: the entry to BACKUP from MAINS or RECOVERING. -/
def State.enterBackup (s : State) : State :=
  let settled := s.withdrawExpired.quietNoticeDropped
  { settled with
    station := { settled.station with supplyMode := .backup, recoveryCount := 0 }
    converter := { s.converter with backupCount := 0 }
    receiver := s.receiver.turnedOff
    transmitter := s.transmitter.enterBackup }.raise .supplyChange

/-- R164, R179: while RSTN is low the supply mode follows PFAILN. -/
def State.followPin (s : State) : State :=
  { s with station := { s.station with supplyMode := supplyOfPin s.pfailnHigh } }

/-- PFAILN_FALLING (R173). -/
def execPfailnFalling (s : State) : Result :=
  .next
    (if s.pfailnHigh then
      let low : State := { s with pfailnHigh := false }
      if s.rstnHigh = false then low.followPin
      else if s.station.supplyMode = .backup then low
      else low.enterBackup
    else s)

/-- R173: the return to MAINS, from BACKUP in UNCONFIGURED or at the end of recovery. -/
def State.returnToMains (s : State) : State :=
  ({ s with station := { s.station with supplyMode := .mains, recoveryCount := 0 } }.raise
    .supplyChange).restartReceiver

/-- R173, R174: PFAILN rises in BACKUP. -/
def State.leaveBackup (s : State) : State :=
  let left : State := { s with converter := { s.converter with backupCount := 0 } }
  if s.station.state = .unconfigured then left.returnToMains
  else { left with station := { left.station with supplyMode := .recovering, recoveryCount := 2 } }

/-- PFAILN_RISING (R173). -/
def execPfailnRising (s : State) : Result :=
  .next
    (if s.pfailnHigh then s
    else
      let high : State := { s with pfailnHigh := true }
      if s.rstnHigh = false then high.followPin
      else if s.station.supplyMode = .backup then high.leaveBackup
      else high)

/-- RECOVERY_END (R173). -/
def execRecoveryEnd (s : State) : Result :=
  takeEvent (fun s => if s.recoveryEnds then s.returnToMains else s) s

end Sys2Proof.Machine
end

