-- ==== Sys2Proof/Machine/Peers.lean ====
section
/-! DEFINITION. The Peer Table and what a frame from a peer does (R52 to R55, R127, R151 to R160), and READ_PEER. -/

namespace Sys2Proof.Machine

/-! ### The table (R151 to R153) -/

/-- The entry of an address. -/
def findPeer (peers : List PeerEntry) (address : Nat) : Option PeerEntry := peers.find? fun p => p.address == address

/-- An entry put at its ascending place, in place of the entry of the same address. -/
def putPeer (e : PeerEntry) : List PeerEntry → List PeerEntry
  | [] => [e]
  | p :: ps =>
    if e.address < p.address then e :: p :: ps else if e.address = p.address then e :: ps else p :: putPeer e ps

/-- R153: a new entry, before it takes the frame that creates it. -/
def PeerEntry.created (address : Nat) (roleCode : Octet) (weight : Nat) : PeerEntry :=
  { address := address, state := .present, roleCode := roleCode, weight := weight, lastDigest := 0, announced := none,
    announcedExpected := none, acceptance := none, missed := 0, accepted := 0, late := 0, duplicate := 0,
    farAhead := 0 }

/-- R154, R155: the digest of a frame stored and compared: a differing one makes the entry INCOMPATIBLE, an equal one
makes an INCOMPATIBLE entry PRESENT. -/
def PeerEntry.takeDigest (p : PeerEntry) (digest own : Nat) : PeerEntry :=
  { p with
    lastDigest := digest
    state := if digest ≠ own then .incompatible else if p.state = .incompatible then .present else p.state }

/-- R154: the entry enters INCOMPATIBLE. -/
def PeerEntry.turnsIncompatible (p : PeerEntry) (digest own : Nat) : Bool :=
  digest != own && p.state != .incompatible

/-! ### Presence Notices (R156) -/

/-- R154, R156: the fields a Presence Notice updates in every case. -/
def PeerEntry.takeNotice (p : PeerEntry) (n : PresenceNotice) : PeerEntry :=
  { p with
    roleCode := n.roleCode, weight := n.weight, announced := some n.announced, announcedExpected := some n.expected }

/-- R156: the state a compatible sender's notice gives the entry. -/
def stateOfNotice (announced : NoticeState) : PeerState :=
  match announced with
  | .quiet => .quiet
  | .joining | .running => .present

/-- R154 to R156: the entry after a Presence Notice. -/
def PeerEntry.afterNotice (p : PeerEntry) (n : PresenceNotice) (own : Nat) : PeerEntry :=
  let e := (p.takeDigest n.digest own).takeNotice n
  if n.digest = own then { e with state := stateOfNotice n.announced } else e

/-- R127, R153: the entry of a sender, found or created. -/
def State.peerOf (s : State) (address : Nat) (roleCode : Octet) (weight : Nat) : PeerEntry :=
  (findPeer s.peers address).getD (.created address roleCode weight)

/-- R127: a Presence Notice handed to the Peer Table. -/
def State.handNotice (n : PresenceNotice) (s : State) : State :=
  let p := s.peerOf n.sender n.roleCode n.weight
  { s with peers := putPeer (p.afterNotice n s.station.digest) s.peers }.raiseIf
    (p.turnsIncompatible n.digest s.station.digest) .peerIncompatible

/-! ### Window Reports (R52 to R55, R157 to R159) -/

/-- R53: the disposition of a report; an accepted one names the place of the entry it reaches. -/
inductive Disposition where
  | accepted (place : Place)
  | duplicate
  | late
  | farAhead
  deriving DecidableEq, Repr

/-- R52: the reported window's global index. -/
def State.reportedIndex (s : State) (r : WindowReport) : Nat := globalIndex s.items.length r.day r.windowInDay

/-- R52: the position of a report against the OPEN entry. -/
def State.position (s : State) (r : WindowReport) : Int :=
  indexDifference s.items.length (s.reportedIndex r) ((s.windows.openEntry.map fun e => e.index).getD 0)

/-- R53: what a report offered for a place gets there. -/
def WindowTable.offer (w : WindowTable) (place : Place) (sender : Nat) : Disposition :=
  match w.at place with
  | none => .late
  | some e => if e.contributors.contains sender then .duplicate else .accepted place

/-- R53: the disposition of an offered report. -/
def State.disposition (s : State) (r : WindowReport) : Disposition :=
  let d := s.position r
  if 2 ≤ d then .farAhead
  else if d = 1 then s.windows.offer .ahead r.sender
  else if d = 0 then s.windows.offer .opened r.sender
  else if d = -1 then s.windows.offer .grace r.sender
  else .late

/-- R54: the peer sums of one plant after an accepted report. -/
def PeerSums.add (p : PeerSums) (isCommon : Bool) (demand energy : Nat) : PeerSums :=
  { demand := p.demand + demand, energy := p.energy + energy, common := p.common + if isCommon then energy else 0 }

/-- R54: an entry after an accepted report. -/
def WindowEntry.accept (e : WindowEntry) (r : WindowReport) : WindowEntry :=
  let isCommon := r.roleCode == Role.common.code
  { e with
    contributors := insertAscending r.sender e.contributors
    weightSum := e.weightSum + if r.roleCode = Role.tenant.code then r.weight else 0
    sums :=
      { heat := e.sums.heat.add isCommon r.demand.heat r.energy.heat
        cool := e.sums.cool.add isCommon r.demand.cool r.energy.cool }
    estimatedContributors := e.estimatedContributors + if reportIsEstimated r.quality then 1 else 0 }

/-- R54: the Window Table with an accepted report in the entry of a place. -/
def WindowTable.accept (w : WindowTable) (place : Place) (r : WindowReport) : WindowTable :=
  match place with
  | .grace => { w with graceEntry := w.graceEntry.map fun e => e.accept r }
  | .opened => { w with openEntry := w.openEntry.map fun e => e.accept r }
  | .ahead => { w with aheadEntry := w.aheadEntry.map fun e => e.accept r }

/-- R158: a difference of seconds reduced into -43200..43199. -/
def clockOffset (senderSecond arrivalSecond : Nat) : Int :=
  ((senderSecond : Int) - arrivalSecond + 43200) % 86400 - 43200

/-- R157: the sender's entry after an accepted report. -/
def PeerEntry.afterAcceptance (p : PeerEntry) (r : WindowReport) (index arrivalSecond : Nat) : PeerEntry :=
  { p with
    accepted := bump p.accepted
    missed := 0
    acceptance := some { lastWindow := index, offset := clockOffset r.second arrivalSecond, offsetIndex := index }
    roleCode := r.roleCode
    weight := r.weight
    state := .present }

/-- R55, R157, R159: the sender's entry after a disposition. -/
def PeerEntry.afterDisposition (p : PeerEntry) (r : WindowReport) (index arrivalSecond : Nat) :
    Disposition → PeerEntry
  | .accepted _ => p.afterAcceptance r index arrivalSecond
  | .late => { p with late := bump p.late }
  | .duplicate => { p with duplicate := bump p.duplicate }
  | .farAhead => { p with farAhead := bump p.farAhead }

/-- R55: the disposition counts of the CURRENT context. -/
def DispositionCounts.count (c : DispositionCounts) : Disposition → DispositionCounts
  | .accepted _ => c
  | .late => { c with late := bump c.late }
  | .duplicate => { c with duplicate := bump c.duplicate }
  | .farAhead => { c with farAhead := bump c.farAhead }

/-- R55: a disposition counted in the CURRENT context. -/
def Contexts.countDisposition (c : Contexts) (d : Disposition) : Contexts :=
  { c with
    current :=
      c.current.map fun k => { k with figures := { k.figures with dispositions := k.figures.dispositions.count d } } }

/-- R54: the Window Table after a disposition. -/
def WindowTable.afterDisposition (w : WindowTable) (r : WindowReport) : Disposition → WindowTable
  | .accepted place => w.accept place r
  | .late | .duplicate | .farAhead => w

/-- R127: a Window Report handed to the Peer Table and, from a compatible sender, to the Window Table. -/
def State.handReport (r : WindowReport) (s : State) : State :=
  let p := s.peerOf r.sender r.roleCode r.weight
  let judged := p.takeDigest r.digest s.station.digest
  if r.digest = s.station.digest then
    let d := s.disposition r
    { s with
      windows := s.windows.afterDisposition r d
      peers := putPeer (judged.afterDisposition r (s.reportedIndex r) s.receiver.arrivalSecond d) s.peers
      contexts := s.contexts.countDisposition d }
  else
    { s with
      peers := putPeer judged s.peers
      receiver := { s.receiver with incompatible := bump s.receiver.incompatible } }.raiseIf
      (p.turnsIncompatible r.digest s.station.digest) .peerIncompatible

/-! ### Missed-window upkeep (R80, R160) -/

/-- R80: an entry not among a closing window's contributors. -/
def PeerEntry.miss (p : PeerEntry) : PeerEntry :=
  match p.state with
  | .present =>
    { p with
      missed := min 15 (p.missed + 1), state := if 4 ≤ min 15 (p.missed + 1) then .silent else .present }
  | .silent => { p with missed := min 15 (p.missed + 1) }
  | .quiet | .incompatible => p

/-- R80: every entry at the close of a window. -/
def upkeep (contributors : List Nat) (peers : List PeerEntry) : List PeerEntry :=
  peers.map fun p => if contributors.contains p.address then p else p.miss

/-! ### READ PEER (R163) -/

/-- R163: READ PEER. -/
def readPeerEffect (address : Octet) (s : State) : State × List Octet :=
  if address.toNat = 0 ∨ 64 < address.toNat then statusOnly .badValue peerLength s
  else
    match findPeer s.peers address.toNat with
    | some p => (s, respond .ok p.octets)
    | none => statusOnly .empty peerLength s

/-- READ_PEER (R163). -/
def execReadPeer (address : Octet) (s : State) : Result := takeCommand (readPeerEffect address) s

end Sys2Proof.Machine
end

