-- ==== Sys2Proof/Machine/Line.lean ====
section
/-! DEFINITION. The Line Receiver's events (R112 to R127): START_BIT, LINE_OCTET_RECEIVED, IDLE_GAP, FRAME_RECEIVED, and
READ_LINE. -/

namespace Sys2Proof.Machine

/-! ### Receive errors (R118 to R121) -/

/-- R118: a framing error. -/
def Receiver.framingError (r : Receiver) : Receiver :=
  { r with parser := .waitGap, frame := [], errors := { r.errors with framing := bump r.errors.framing } }

/-- R119: a stray error. -/
def Receiver.strayError (r : Receiver) : Receiver :=
  { r with parser := .waitGap, frame := [], errors := { r.errors with stray := bump r.errors.stray } }

/-- R120: a length error, the parser going to a state. -/
def Receiver.lengthError (r : Receiver) (next : ParserState) : Receiver :=
  { r with parser := next, frame := [], errors := { r.errors with length := bump r.errors.length } }

/-- R121: a CRC error. -/
def Receiver.crcError (r : Receiver) : Receiver :=
  { r with parser := .afterFrame, frame := [], errors := { r.errors with crc := bump r.errors.crc } }

/-! ### Dispatch of good frames (R125) -/

/-- R125: the frame is counted as ignored. -/
def State.ignoreFrame (s : State) : State :=
  { s with receiver := { s.receiver with ignored := bump s.receiver.ignored } }

/-- R120, R125: the frame is dropped as malformed; the parser stays in AFTER_FRAME. -/
def State.malformedFrame (s : State) : State := { s with receiver := s.receiver.lengthError .afterFrame }

/-- R124: a Line Test echo. -/
def State.echo (sequence : Nat) (s : State) : State :=
  { s with
    receiver := { s.receiver with testEchoes := bump s.receiver.testEchoes, lastEcho := some sequence } }

/-- R126: a clash counted in the CURRENT context. -/
def Contexts.countClash (c : Contexts) : Contexts :=
  { c with
    current := c.current.map fun k => { k with figures := { k.figures with addressClashes := bump k.figures.addressClashes } } }

/-- R126: an address clash. -/
def State.addressClash (s : State) : State :=
  { s with
    receiver := { s.receiver with addressClashes := bump s.receiver.addressClashes }
    contexts := s.contexts.countClash }.raise .addressClash

/-- R124, R125: a good Line Test. -/
def State.dispatchLineTest (payload : List Octet) (s : State) : State :=
  if lineTestWellFormed payload = false then s.malformedFrame
  else if s.transmitter.testMode = .off then s.ignoreFrame
  else s.echo (fieldAt payload 1 2)

/-- R125: a good Window Report or Presence Notice at a commissioned station. -/
def State.dispatchFromPeer (kind : Octet) (payload : List Octet) (s : State) : State :=
  let sender := fieldAt payload 0 1
  if sender = 0 ∨ 64 < sender then s.malformedFrame
  else if kind = presenceNoticeKind then
    match noticeOfPayload payload with
    | none => s.malformedFrame
    | some n => if s.items.stationAddress = some sender then s.addressClash else s.handNotice n
  else if s.items.stationAddress = some sender then s.addressClash
  else s.handReport (reportOfPayload payload)

/-- R125: a good frame, by the first row that applies. -/
def State.dispatch (kind : Octet) (payload : List Octet) (s : State) : State :=
  if kind = lineTestKind then s.dispatchLineTest payload
  else if s.station.state = .unconfigured then s.ignoreFrame
  else s.dispatchFromPeer kind payload

/-- R121: a complete frame judged. -/
def State.judge (s : State) : State :=
  if frameGood s.receiver.frame then
    { s with receiver := { s.receiver with parser := .afterFrame, frame := [] } }.dispatch
      (octetAt s.receiver.frame 1) (framePayload s.receiver.frame)
  else { s with receiver := s.receiver.crcError }

/-- A frame has all its octets and has not been judged yet. -/
def State.frameWaits (s : State) : Bool := s.receiver.parser == .inFrame && frameComplete s.receiver.frame

/-- A frame that waits is judged before the next octet or idle gap reaches the parser (log entry 13). -/
def State.judgeWaiting (s : State) : State := if s.frameWaits then s.judge else s

/-- FRAME_RECEIVED (R121). -/
def execFrameReceived (s : State) : Result := takeEvent State.judgeWaiting s

/-! ### Start bits and characters (R112, R116, R138, R140) -/

/-- R112, R138: a start bit on the source, a fall from mark: the gap timer returns to 0 and a transmitter in BACKOFF
defers. -/
def State.startBit (s : State) : State :=
  { s with
    receiver := { (s.seeLrx false).receiver with gapTimer := 0, charInProgress := true }
    transmitter :=
      if s.transmitter.state = .backoff then { s.transmitter with state := .waitIdle, backoffSlots := 0 }
      else s.transmitter }

/-- R113, R114: a start bit reaches the source: the receiver is on, and on the internal loop only the station's own
octets begin one. -/
def State.sourceStarts (s : State) : Bool :=
  s.receiverOn && (s.transmitter.testMode != .internal || s.transmitter.state == .sending)

/-- START_BIT (R138). -/
def execStartBit (s : State) : Result := takeEvent (fun s => if s.sourceStarts then s.startBit else s) s

/-- R113, R114, R148: the character the source carries. On the internal loop it is the next octet the station sends and
the line is ignored (log entry 15). -/
def State.sourceCharacter (octet : Octet) (stopBit : Bool) (s : State) : Option (Octet × Bool) :=
  if s.receiverOn = false then none
  else if s.transmitter.testMode = .internal then
    match s.transmitter.readBack with
    | .matched n => (s.octetsSent[n]?).map fun o => (o, true)
    | .differed => none
  else some (octet, stopBit)

/-- R140: one more octet compared with the octet sent. -/
def Transmitter.compare (t : Transmitter) (octet : Octet) (stopBit : Bool) : ReadBack :=
  match t.readBack with
  | .differed => .differed
  | .matched n =>
    match t.currentFrame[n]? with
    | none => .matched n
    | some sent => if octet = sent ∧ stopBit then .matched (n + 1) else .differed

/-- R140: the read-back of a running attempt. After an octet that differs the attempt stands in SENDING until TX_COLLISION, the
row that ends it in the same moment, is taken (DESIGN CHOICE, log entry 35). -/
def Transmitter.readOctet (t : Transmitter) (octet : Octet) (stopBit : Bool) : Transmitter :=
  if t.state = .sending then { t with readBack := t.compare octet stopBit } else t

/-- R120: a kind octet that names no frame, or a length octet that is not the kind's. -/
def structureFails (frame : List Octet) : Bool :=
  match frame with
  | [_, kind] => payloadLength kind == none
  | [_, kind, length] => payloadLength kind != some length.toNat
  | _ => false

/-- R116, R118 to R120: a character reaches the parser. -/
def Receiver.takeOctet (r : Receiver) (second : Nat) (octet : Octet) (stopBit : Bool) : Receiver :=
  match r.parser with
  | .off | .held | .waitGap => r
  | .afterFrame => r.strayError
  | .ready =>
    if stopBit = false then r.framingError
    else if octet = leadOctet then { r with parser := .inFrame, frame := [octet], arrivalSecond := second }
    else r.strayError
  | .inFrame =>
    if stopBit = false then r.framingError
    else if structureFails (r.frame ++ [octet]) then r.lengthError .waitGap
    else { r with frame := r.frame ++ [octet] }

/-- R112: the start bit of a character whose START_BIT has not been taken (log entry 14). -/
def State.impliedStartBit (s : State) : State := if s.receiver.charInProgress then s else s.startBit

/-- R112, R116, R140: a character completes on the source; without its stop bit it leaves the source at space. -/
def State.character (octet : Octet) (stopBit : Bool) (s : State) : State :=
  let started := s.judgeWaiting.impliedStartBit.seeLrx !stopBit
  { started with
    transmitter := started.transmitter.readOctet octet stopBit
    receiver :=
      { started.receiver with gapTimer := 0, charInProgress := false }.takeOctet s.timebase.secondOfDay octet stopBit }

/-- LINE_OCTET_RECEIVED (R116). -/
def execLineOctetReceived (octet : Octet) (stopBit : Bool) (s : State) : Result :=
  takeEvent
    (fun s =>
      match s.sourceCharacter octet stopBit with
      | some (o, stop) => s.character o stop
      | none => s) s

/-! ### The idle gap (R112, R116, R137) -/

/-- R116: an idle gap reported to the parser. -/
def Receiver.takeGap (r : Receiver) : Receiver :=
  match r.parser with
  | .off | .held | .ready => r
  | .waitGap | .afterFrame => { r with parser := .ready }
  | .inFrame => r.lengthError .ready

/-- R112: the gap timer can reach 4 character times. -/
def State.gapCanEnd (s : State) : Bool :=
  s.receiverOn && decide (s.receiver.gapTimer < 4) && !s.receiver.charInProgress

/-- R112, R116, R137: the line becomes idle, having rested at mark: a line last seen at space has risen before it
(log entry 32). -/
def State.idleGap (s : State) : State :=
  let judged := s.judgeWaiting.seeLrx false
  let rested : State := { judged with receiver := { judged.receiver.takeGap with gapTimer := 4 } }
  if rested.transmitter.state = .waitIdle then rested.enterBackoff else rested

/-- IDLE_GAP (R112). -/
def execIdleGap (s : State) : Result := takeEvent (fun s => if s.gapCanEnd then s.idleGap else s) s

/-! ### READ LINE (R130, R150) -/

/-- READ_LINE (R150). -/
def execReadLine (s : State) : Result := takeCommand (fun s => (s, respond .ok (lineOctets s))) s

end Sys2Proof.Machine
end

