-- ==== Sys2Proof/Machine/Transmit.lean ====
section
/-! DEFINITION. The Line Transmitter's events and commands (R137 to R149): BACKOFF_EXPIRY, TX_COLLISION, TX_SUCCESS,
LINE_STUCK, CLEAR_FAILURE, RESTART_LINE, LINE_TEST_MODE and SEND_TEST. -/

namespace Sys2Proof.Machine

/-! ### The start of an attempt (R139) -/

/-- R139: the sender second-of-day filled; a Line Test has none. -/
def ReportContent.fill (c : ReportContent) (second : Nat) : ReportContent :=
  match c with
  | .windowReport r => .windowReport { r with second := second }
  | .lineTest sequence => .lineTest sequence

/-- R139: the current frame filled at the start of its attempt. -/
def Transmitter.fill (t : Transmitter) (second : Nat) : Transmitter :=
  match t.current with
  | some .report => { t with report := t.report.map fun r => { r with content := r.content.fill second } }
  | some .notice => { t with notice := t.notice.map fun n => { n with notice := { n.notice with second := second } } }
  | none => t

/-- R114, R139: the transmitter enters SENDING; with line-test mode OFF the parser is held and a frame in progress
abandoned. -/
def State.startSending (s : State) : State :=
  { s with
    transmitter :=
      { s.transmitter.fill s.timebase.secondOfDay with
        state := .sending, backoffSlots := 0, readBack := .matched 0 }
    receiver :=
      if s.transmitter.testMode = .off then { s.receiver with parser := .held, frame := [] } else s.receiver }

/-- BACKOFF_EXPIRY (R137). -/
def execBackoffExpiry (s : State) : Result :=
  takeEvent (fun s => if s.transmitter.state = .backoff then s.startSending else s) s

/-! ### Collisions (R141) -/

/-- R142: a frame given up after its eighth collision. -/
def State.giveUp (s : State) : State :=
  { s with
    transmitter :=
      { s.transmitter with giveUps := bump s.transmitter.giveUps, lastFailure := .collisionLimit } }.raise .txFailure

/-- R59, R142: a Window Report given up is DISCARDED. -/
def State.reportGivenUp (content : ReportContent) (s : State) : State :=
  match content with
  | .windowReport _ => s.settleGraceReport .discarded
  | .lineTest _ => s

/-- R63, R141: an expired report that collides is withdrawn as STALE. -/
def State.expiredCollision (s : State) : State :=
  ({ s with transmitter := { s.transmitter with report := none, lastFailure := .stale } }.settleClosedReport
    .stale).raise .txFailure

/-- R64, R141: the report slot's frame after its attempt ended in a collision. Where the report's grace expiry falls in the
same moment the report waits for it at any count, to be withdrawn as STALE (R64, log entry 34). -/
def State.reportCollision (r : ReportSlot) (s : State) : State :=
  if r.expired then s.expiredCollision
  else if r.attempts + 1 < 8 || s.expiryFollows r.content then
    { s with transmitter := { s.transmitter with report := some { r with attempts := min 8 (r.attempts + 1) } } }
  else ({ s with transmitter := { s.transmitter with report := none } }.reportGivenUp r.content).giveUp

/-- R134, R141: the notice after its attempt ended in a collision. -/
def State.noticeCollision (n : NoticeSlot) (s : State) : State :=
  match s.transmitter.followOn with
  | some announced =>
    { s with transmitter := { s.transmitter with notice := some (s.newNotice announced), followOn := none } }
  | none =>
    if n.attempts + 1 < 8 then
      { s with transmitter := { s.transmitter with notice := some { n with attempts := n.attempts + 1 } } }
    else ({ s with transmitter := { s.transmitter with notice := none } }.noticeEnded n.notice.announced).giveUp

/-- R140: every octet of the attempt has been read back as sent. -/
def Transmitter.readBackWhole (t : Transmitter) : Bool :=
  match t.readBack with
  | .differed => false
  | .matched n => decide (t.currentFrame.length ≤ n)

/-- R140, R148: the running attempt can end in a collision: not on the internal loop, and not after its last octet was
read back as sent. -/
def Transmitter.canCollide (t : Transmitter) : Bool :=
  t.state == .sending && t.testMode != .internal && !t.readBackWhole

/-- R141: the effect of a collision on the frame that was in transmission. -/
def State.frameCollision (slot : Option Slot) (s : State) : State :=
  match slot, s.transmitter.report, s.transmitter.notice with
  | some .report, some r, _ => s.reportCollision r
  | some .notice, _, some n => s.noticeCollision n
  | _, _, _ => s

/-- R140: what an octet is read back as when it is the one that collides: its value and stop bit are free, but for the
pair that is no collision (log entry 33). -/
def State.collidingCharacter (s : State) (sent : Octet) : Octet × Bool :=
  if Config.collidingOctet s.freeCount = sent ∧ Config.collidingStopBit s.freeCount = true then (sent, false)
  else (Config.collidingOctet s.freeCount, Config.collidingStopBit s.freeCount)

/-- R114, R140: where no octet has been read back as differing, the next one is, and passes to the parser as R114 lets it
(log entries 12 and 33). -/
def State.readColliding (s : State) : State :=
  match s.transmitter.readBack with
  | .differed => s
  | .matched n =>
    match s.octetsSent[n]? with
    | none => s
    | some sent =>
      { s.character (s.collidingCharacter sent).1 (s.collidingCharacter sent).2 with freeCount := s.freeCount + 1 }

/-- R140, R141: the running attempt ends in a collision. -/
def State.collide (s : State) : State :=
  let ended := s.readColliding.endAttempt
  ({ ended with
      transmitter := { ended.transmitter with collisions := bump s.transmitter.collisions } }.frameCollision
    s.transmitter.current).chooseCurrent

/-- TX_COLLISION (R141). -/
def execTxCollision (s : State) : Result :=
  takeEvent (fun s => if s.transmitter.canCollide then s.collide else s) s

/-! ### Success (R142) -/

/-- R142: the report slot's frame has been sent. -/
def State.reportSent (r : ReportSlot) (s : State) : State :=
  let freed : State := { s with transmitter := { s.transmitter with report := none } }
  match r.content with
  | .windowReport _ => freed.settleReport r.expired .sent
  | .lineTest _ => freed

/-- R134, R142: the notice has been sent; a follow-on takes its slot. -/
def State.noticeSent (n : NoticeSlot) (s : State) : State :=
  { s with
    transmitter :=
      { s.transmitter with notice := s.transmitter.followOn.map fun a => s.newNotice a, followOn := none } }.noticeEnded
    n.notice.announced

/-- R142: the effect of a success on the frame that was in transmission. -/
def State.frameSent (slot : Option Slot) (s : State) : State :=
  match slot, s.transmitter.report, s.transmitter.notice with
  | some .report, some r, _ => s.reportSent r
  | some .notice, _, some n => s.noticeSent n
  | _, _, _ => s

/-- R140: the running attempt can end in success: no octet of it has been read back otherwise than sent. -/
def Transmitter.canSucceed (t : Transmitter) : Bool := t.state == .sending && t.readBack != .differed

/-- The octets of the running attempt not yet read back. -/
def Transmitter.octetsLeft (t : Transmitter) : List Octet :=
  match t.readBack with
  | .differed => []
  | .matched n => t.currentFrame.drop n

/-- R114, R140: what is left of the attempt is read back as sent; in a line-test mode those octets pass to the parser,
which is held otherwise (log entry 12). -/
def State.readBackRest (s : State) : State :=
  if s.transmitter.testMode = .off then s
  else s.transmitter.octetsLeft.foldl (fun (t : State) o => t.character o true) s

/-- R142: the running attempt ends in success, its last octet read back with its stop bit at mark. -/
def State.succeed (s : State) : State :=
  let ended := (s.readBackRest.seeLrx false).endAttempt
  ({ ended with
      transmitter := { ended.transmitter with framesSent := bump s.transmitter.framesSent } }.frameSent
    s.transmitter.current).chooseCurrent

/-- TX_SUCCESS (R142). -/
def execTxSuccess (s : State) : Result :=
  takeEvent (fun s => if s.transmitter.canSucceed then s.succeed else s) s

/-! ### The stuck line (R143) and the last failure (R144) -/

/-- R143: the stuck timer can reach 2 s or stands there: WAIT_IDLE, the receiver on, and a line that can be stuck, which
the internal loop cannot. -/
def State.lineCanStick (s : State) : Bool :=
  s.transmitter.state == .waitIdle && s.receiverOn && s.transmitter.testMode != .internal

/-- LINE_STUCK (R143). -/
def execLineStuck (s : State) : Result :=
  takeEvent
    (fun s =>
      if s.lineCanStick then
        { s with transmitter := { s.transmitter with stuckTimer := stuckLimit } }.reportStuck
      else s) s

/-- R144: CLEAR FAILURE. -/
def clearFailureEffect (s : State) : State × List Octet :=
  ({ s with transmitter := { s.transmitter with lastFailure := .noFailure } }, respond .ok [])

/-- CLEAR_FAILURE (R144). -/
def execClearFailure (s : State) : Result := takeCommand clearFailureEffect s

/-! ### RESTART LINE (R147) -/

/-- R131: the transmitter after RESTART LINE. -/
def Transmitter.restarted (t : Transmitter) : Transmitter :=
  { Transmitter.reset with testMode := t.testMode, testSequence := t.testSequence }

/-- R110: the receiver after RESTART LINE, on or off. A character in progress is dropped with the frame (DESIGN CHOICE,
log entry 31); the level of LRX stays as it was seen. -/
def Receiver.restarted (r : Receiver) (on : Bool) : Receiver :=
  { r with
    parser := if on then .waitGap else .off, gapTimer := 0, frame := [], charInProgress := false,
    errors := ⟨0, 0, 0, 0⟩, ignored := 0, incompatible := 0 }

/-- R45, R110, R131, R147: RESTART LINE on a commissioned station. -/
def restartLineEffect (s : State) : State × List Octet :=
  let settled := ((s.settleGraceReport .discarded).settleClosedReport .discarded).endOfQuietNotice
  ({ settled with
      transmitter := s.transmitter.restarted
      receiver := s.receiver.restarted s.receiverOn },
    respond .ok [])

/-- RESTART_LINE (R147). -/
def execRestartLine (s : State) : Result := takeCommand (commissionedOnly 0 restartLineEffect) s

/-! ### Line test (R148, R149) -/

/-- R148: LINE TEST MODE in UNCONFIGURED. -/
def lineTestModeEffect (mode : Octet) (s : State) : State × List Octet :=
  match lineTestModeOfCode mode with
  | none => statusOnly .badValue 0 s
  | some m =>
    if m = s.transmitter.testMode then (s, respond .ok [])
    else
      let dropped := s.dropLineTest
      ({ dropped with transmitter := { dropped.transmitter with testMode := m } }.restartReceiver, respond .ok [])

/-- LINE_TEST_MODE (R148). -/
def execLineTestMode (mode : Octet) (s : State) : Result :=
  takeCommand (unconfiguredOnly 0 (lineTestModeEffect mode)) s

/-- R149: SEND TEST in UNCONFIGURED. -/
def sendTestEffect (s : State) : State × List Octet :=
  if s.transmitter.testMode = .off ∨ s.transmitter.report.isSome then statusOnly .notNow 0 s
  else
    ({ s with
        transmitter := { s.transmitter with testSequence := (s.transmitter.testSequence + 1) % 65536 } }.queueReport
      (.lineTest s.transmitter.testSequence), respond .ok [])

/-- SEND_TEST (R149). -/
def execSendTest (s : State) : Result := takeCommand (unconfiguredOnly 0 sendTestEffect) s

end Sys2Proof.Machine
end

