-- ==== Sys2Proof/Machine/Apportion.lean ====
section
/-! DEFINITION. The Apportioning Engine (R67 to R88): what the close of a window folds into a Period Context, and the
tariff band of a window (R38). -/

namespace Sys2Proof.Machine

/-! ### The tariff band of a window (R38) -/

/-- R38: the day of a window is of weekend type. -/
def Calendar.isWeekend (c : Calendar) (day : Nat) : Bool :=
  decide (5 ≤ (c.epochWeekday + day) % 7) || c.holidays.contains day

/-- R38: the band of the window with a global index. -/
def bandOf (c : Calendar) (l : WindowLength) (index : Nat) : Nat :=
  let slot := index % l.perDay * l.minutes / 30
  if c.isWeekend (index / l.perDay) then c.weekend.band slot else c.weekday.band slot

/-! ### One plant's figures (R70 to R74) -/

/-- R70: the complex demand of a window. -/
def complexDemand (own : OwnPart) (sums : PeerSums) : Nat := own.demand + sums.demand

/-- R72: the station's part of a peak in parts per million. -/
def sharePpm (ownDemand complex : Nat) : Nat := if complex = 0 then 0 else ownDemand * 1000000 / complex

/-- R71: an absent peak record compares as a complex demand of 0. -/
def peakDemand (p : Option Peak) : Nat := (p.map fun k => k.complexDemand).getD 0

/-- R72: the peak record after a close; on a tie the earlier window is kept. -/
def updatePeak (w : WindowEntry) (own : OwnPart) (sums : PeerSums) (old : Option Peak) : Option Peak :=
  if peakDemand old < complexDemand own sums then
    some { index := w.index, complexDemand := complexDemand own sums, ownDemand := own.demand,
           contributors := w.contributors.length,
           sharePpm := Machine.sharePpm own.demand (complexDemand own sums) }
  else old

/-- R73: S, the own weight and the entry's tenant weight sum. -/
def weightTotal (i : Items) (w : WindowEntry) : Nat := i.weight + w.weightSum

/-- R73, R74: the common share of a window for one plant; 0 at a COMMON station and where S is 0. -/
def commonShare (i : Items) (w : WindowEntry) (sums : PeerSums) : Nat :=
  if i.role = some .tenant ∧ 0 < weightTotal i w then sums.common * i.weight / weightTotal i w else 0

/-- R74: the window is unapportioned. -/
def unapportioned (i : Items) (w : WindowEntry) : Bool := decide (i.role = some .tenant ∧ weightTotal i w = 0)

/-- R78: the contributors required for a complete window. -/
def requiredContributors (expected quietPeers : Nat) : Nat := expected - 1 - quietPeers

/-! ### Folding into a context (R75 to R79) -/

/-- R75: a band field with an addition, saturating at 48 bits. -/
def addBand (b add : Nat) (x : PerBand Nat) : PerBand Nat := x.modify (fun e => satAdd 48 e add) b

/-- R77 to R79: the window counts after a close. -/
def WindowCounts.close (c : WindowCounts) (i : Items) (w : WindowEntry) (quietPeers : Nat) : WindowCounts :=
  { closed := bump c.closed
    complete := bumpIf (decide (requiredContributors i.expected quietPeers ≤ w.contributors.length)) c.complete
    estimated := bumpIf (eitherPlant w.own OwnFlags.estimated) c.estimated
    faulted := bumpIf (eitherPlant w.own OwnFlags.faulted) c.faulted
    backup := bumpIf (eitherPlant w.own OwnFlags.backup) c.backup
    partialWindows := bumpIf (eitherPlant w.own OwnFlags.partialWindow) c.partialWindows
    unapportioned := bumpIf (Machine.unapportioned i w) c.unapportioned
    contributorsHeard := satAdd 16 c.contributorsHeard w.contributors.length
    estimatedContributors := satAdd 16 c.estimatedContributors w.estimatedContributors }

/-- R70 to R79: a context's figures after the close of a window in band `b`. -/
def Figures.close (f : Figures) (i : Items) (b : Nat) (w : WindowEntry) (quietPeers : Nat) : Figures :=
  { f with
    energy :=
      { heat := addBand b w.own.heat.energy f.energy.heat, cool := addBand b w.own.cool.energy f.energy.cool }
    commonShare :=
      { heat := addBand b (Machine.commonShare i w w.sums.heat) f.commonShare.heat
        cool := addBand b (Machine.commonShare i w w.sums.cool) f.commonShare.cool }
    complexEnergy :=
      { heat := satAdd 48 f.complexEnergy.heat (w.own.heat.energy + w.sums.heat.energy)
        cool := satAdd 48 f.complexEnergy.cool (w.own.cool.energy + w.sums.cool.energy) }
    peak :=
      { heat := updatePeak w w.own.heat w.sums.heat f.peak.heat
        cool := updatePeak w w.own.cool w.sums.cool f.peak.cool }
    unmetered := satAdd 48 f.unmetered (w.own.heat.unmetered + w.own.cool.unmetered)
    reverseCount := satAdd 32 f.reverseCount w.reverseCount
    counts := f.counts.close i w quietPeers }

/-- R75, R89: the 48-bit fields of a context. -/
def Figures.fields48 (f : Figures) : List Nat :=
  f.energy.heat.toList ++ f.energy.cool.toList ++ f.commonShare.heat.toList ++ f.commonShare.cool.toList
    ++ [f.complexEnergy.heat, f.complexEnergy.cool, f.unmetered]

/-- R76, R86, R89: a close that leaves some 48-bit field at 2^48 - 1 sets SATURATED: its sum would exceed the limit, or it
stood there already. A sum of exactly 2^48 - 1 counts as reaching the limit (DESIGN CHOICE, log entry 30). -/
def foldSaturates (closed : Figures) : Bool := closed.fields48.any fun v => decide (maxOf 48 ≤ v)

/-- R67 to R79: a context after the close of a window. -/
def PeriodContext.close (c : PeriodContext) (i : Items) (cal : Calendar) (w : WindowEntry) (quietPeers : Nat) :
    PeriodContext :=
  let closed := c.figures.close i (bandOf cal i.length w.index) w quietPeers
  { c with figures := closed, saturated := c.saturated || foldSaturates closed }

/-! ### The clock skew check (R82, R83) -/

/-- R82: the offsets measured on the closing window's reports. -/
def measuredOffsets (w : WindowEntry) (peers : List PeerEntry) : List Int :=
  peers.filterMap fun p =>
    match p.acceptance with
    | some a => if w.contributors.contains p.address && a.offsetIndex == w.index then some a.offset else none
    | none => none

/-- R83: the skew status a list of measured offsets gives. -/
def skewOf (limit : Nat) (offsets : List Int) : SkewStatus :=
  let m := offsets.length
  let above := (offsets.filter fun o => decide ((limit : Int) < o)).length
  let below := (offsets.filter fun o => decide (o < -(limit : Int))).length
  if 2 ≤ m ∧ m < above * 2 then .behind else if 2 ≤ m ∧ m < below * 2 then .ahead else .noSkew

/-- R83: CLOCK_SKEW is raised on a change to BEHIND or AHEAD. -/
def skewRaises (before after : SkewStatus) : Bool := after != .noSkew && after != before

/-! ### The close (R67, R68, R85) -/

/-- R68: the window's day is the day before the CURRENT day, so it folds into CLOSING. -/
def State.foldsIntoClosing (s : State) (w : WindowEntry) : Bool :=
  match s.contexts.current with
  | some c => w.index / s.items.length.perDay == (c.day + 65535) % 65536
  | none => false

/-- R67 to R79: the contexts after the close of a window. -/
def State.contextsAfterClose (s : State) (w : WindowEntry) : Contexts :=
  let quietPeers := countPeers s.peers .quiet
  let fold := fun c : PeriodContext => c.close s.items s.calendar w quietPeers
  if s.foldsIntoClosing w then { s.contexts with closing := s.contexts.closing.map fold }
  else { s.contexts with current := s.contexts.current.map fold }

/-- R85: the closed window is the last of its day and was folded into CLOSING. -/
def State.endsDay (s : State) (w : WindowEntry) : Bool :=
  s.foldsIntoClosing w && w.index % s.items.length.perDay == s.items.length.perDay - 1

/-- R85, R95: a FINAL record is built from CLOSING and offered to the queue, and CLOSING is discarded. -/
def State.finishDay (s : State) : State :=
  match s.contexts.closing with
  | none => s
  | some c =>
    { s with contexts := { s.contexts with closing := none } }.offerFinal
      (buildRecord .finalRecord s.items c (c.rxSnapshot.getD ⟨0, 0, 0, 0⟩))

/-- R67: the close of a window. -/
def State.closeWindow (w : WindowEntry) (s : State) : State :=
  let skew := skewOf s.items.skewLimit (measuredOffsets w s.peers)
  let folded : State :=
    { s with
      contexts := s.contextsAfterClose w
      peers := upkeep w.contributors s.peers
      station := { s.station with skew := skew } }
  let checked := folded.raiseIf (skewRaises s.station.skew skew) .clockSkew
  if s.endsDay w then checked.finishDay else checked

end Sys2Proof.Machine
end

