-- ==== Sys2Proof/Machine/Windows.lean ====
section
/-! DEFINITION. The Window Table and the Period Contexts at the Timebase's events (R46 to R51, R62, R65, R91, R136):
WINDOW_BOUNDARY, DAY_BOUNDARY, GRACE_EXPIRY, and READ_WINDOW. -/

namespace Sys2Proof.Machine

/-! ### The window boundary (R46 to R51, R136) -/

/-- R46: own demand, the own energy over the window length T. -/
def OwnPart.freeze (o : OwnPart) (seconds : Nat) : OwnPart := { o with demand := o.energy / seconds }

/-- R46: the closing entry with both own demands frozen. -/
def WindowEntry.freeze (e : WindowEntry) (seconds : Nat) : WindowEntry :=
  { e with own := e.own.map fun o => o.freeze seconds }

/-- R47: the Window Report of a closing entry. Its second-of-day is filled when an attempt starts (R139). -/
def State.reportOf (s : State) (e : WindowEntry) : WindowReport :=
  { sender := s.items.address, roleCode := s.roleCode, day := e.index / s.items.length.perDay,
    windowInDay := e.index % s.items.length.perDay, demand := e.own.map OwnPart.demand,
    energy := e.own.map OwnPart.energy, weight := s.carriedWeight, digest := s.station.digest, second := 0,
    quality := e.own.map fun o => o.flags.quality }

/-- R48: a report is built in JOINING, RUNNING and QUIETING on mains supply. -/
def Station.reports (s : Station) : Bool :=
  (s.state == .joining || s.state == .running || s.state == .quieting) && s.supplyMode == .mains

/-- R48: the status the closing entry takes at its boundary. -/
def Station.boundaryStatus (s : Station) : ReportStatus := if s.reports then .pending else .suppressed

/-- R50: the closing entry becomes GRACE, AHEAD becomes OPEN, and a new AHEAD entry is created. -/
def WindowTable.move (w : WindowTable) (closing : WindowEntry) (l : WindowLength) : WindowTable :=
  { w with
    graceEntry := some closing
    openEntry := w.aheadEntry
    aheadEntry := w.aheadEntry.map fun a => .fresh (indexAfter l a.index 1) }

/-- R46 to R50: the Window Table's part of a boundary, with the report, if one is built, in its slot. -/
def State.boundaryWindows (e : WindowEntry) (s : State) : State :=
  let closing := e.freeze s.items.length.seconds
  let moved : State :=
    { s with
      windows := s.windows.move { closing with reportStatus := s.station.boundaryStatus } s.items.length }
  if s.station.reports then moved.queueReport (.windowReport (s.reportOf closing)) else moved

/-- R51: a JOINING station becomes RUNNING. -/
def Station.firstBoundary (s : Station) : Station := if s.state = .joining then { s with state := .running } else s

/-- R136: what the notice decision reads as RUNNING. At a boundary taken in JOINING the order of the decision and of the
change to RUNNING is free (log entry 9). -/
def State.readsRunning (s : State) : Bool :=
  match s.station.state with
  | .running => true
  | .joining => Config.joiningSeenRunning s.freeCount
  | .unconfigured | .quieting | .quiet => false

/-- R135: the index of the window that begins agrees with STATION_ADDRESS modulo 16. -/
def State.periodicMatches (s : State) : Bool :=
  match s.windows.openEntry with
  | some e => e.index % 16 == s.items.address % 16
  | none => false

/-- R136: the periodic notice, decided with what was read as the state at the boundary. -/
def State.periodicNotice (running : Bool) (s : State) : State :=
  if running && s.station.supplyMode == .mains && s.periodicMatches then s.requestNotice .running else s

/-- R28, R46 to R51, R136: a window boundary that the Timebase has issued. -/
def State.boundary (s : State) : State :=
  let armed : State :=
    { s with
      timebase := { s.timebase with graceArmed := true, due := { s.timebase.due with windowBoundary := false } }
      freeCount := if s.station.state = .joining then s.freeCount + 1 else s.freeCount }
  match s.windows.openEntry with
  | none => armed
  | some e =>
    let moved := armed.boundaryWindows e
    { moved with station := moved.station.firstBoundary }.periodicNotice s.readsRunning

/-- WINDOW_BOUNDARY (R28), taken where the Timebase has issued one and the cycle event of its second has been taken. -/
def execWindowBoundary (s : State) : Result :=
  takeEvent
    (fun s => if s.timebase.due.windowBoundary && !s.timebase.due.cycleEvent then s.boundary else s) s

/-! ### The day boundary (R91) -/

/-- R91: CURRENT becomes CLOSING with the receive error snapshot, and a new CURRENT is created for the new day. -/
def Contexts.rollOver (c : Contexts) (day : Nat) (errors : RxErrors) : Contexts :=
  { closing := c.current.map fun k => { k with rxSnapshot := some errors }
    current :=
      c.current.map fun _ =>
        { day := day, partialDay := false, saturated := false, figures := .fresh, rxSnapshot := none } }

/-- DAY_BOUNDARY (R29), taken where the Timebase has issued one. -/
def execDayBoundary (s : State) : Result :=
  takeEvent
    (fun s =>
      if s.timebase.due.dayBoundary then
        { s with
          timebase := { s.timebase with due := { s.timebase.due with dayBoundary := false } }
          contexts := s.contexts.rollOver s.timebase.day s.receiver.errors }
      else s) s

/-! ### The grace expiry (R62, R65) -/

/-- R62: the status a closing entry carries on: a waiting report turns STALE, one in transmission stays PENDING. -/
def Transmitter.statusAtExpiry (t : Transmitter) (status : ReportStatus) : ReportStatus :=
  if status = .pending ∧ t.isSending .report = false then .stale else status

/-- R63: the report in transmission is marked expired. -/
def Transmitter.markExpired (t : Transmitter) : Transmitter :=
  { t with report := t.report.map fun r => { r with expired := true } }

/-- R62: the waiting report is withdrawn as STALE, with TX_FAILURE raised. -/
def State.withdrawStale (s : State) : State :=
  ({ s with
      transmitter := { s.transmitter.notCurrent .report with report := none, lastFailure := .stale } }.raise
    .txFailure).chooseCurrent

/-- R62, R63: the transmitter at a grace expiry. -/
def State.settleAtExpiry (status : ReportStatus) (s : State) : State :=
  if status = .pending then
    if s.transmitter.isSending .report then { s with transmitter := s.transmitter.markExpired } else s.withdrawStale
  else s

/-- R62, R65, R67: a grace expiry that the Timebase has issued. -/
def State.graceExpiry (s : State) : State :=
  let disarmed : State :=
    { s with
      timebase := { s.timebase with graceArmed := false, due := { s.timebase.due with graceExpiry := false } } }
  match s.windows.graceEntry with
  | none => disarmed
  | some e =>
    let settled := disarmed.settleAtExpiry e.reportStatus
    let closed :=
      { settled with windows := { settled.windows with graceEntry := none } }.closeWindow
        { e with reportStatus := s.transmitter.statusAtExpiry e.reportStatus }
    { closed with
      windows :=
        { closed.windows with
          closedReport := some { index := e.index, status := s.transmitter.statusAtExpiry e.reportStatus } } }

/-- GRACE_EXPIRY (R30), taken where the Timebase has issued one. -/
def execGraceExpiry (s : State) : Result :=
  takeEvent (fun s => if s.timebase.due.graceExpiry then s.graceExpiry else s) s

/-! ### READ WINDOW (R66) -/

/-- R66: READ WINDOW. -/
def readWindowEffect (selector : Octet) (s : State) : State × List Octet :=
  match placeOfCode selector with
  | none => statusOnly .badValue windowLengthOctets s
  | some place =>
    match s.windows.at place with
    | some e => (s, respond .ok (windowOctets place e))
    | none => statusOnly .empty windowLengthOctets s

/-- READ_WINDOW (R66). -/
def execReadWindow (selector : Octet) (s : State) : Result := takeCommand (readWindowEffect selector) s

end Sys2Proof.Machine
end

