-- ==== Sys2Proof/Machine/Dispatch.lean ====
section
/-! DEFINITION. One arm per command: the meaning of each row of spec/opcode_table.json. -/

namespace Sys2Proof.Machine

/-- The effect of a command on everything but the queue. -/
def exec (i : Instr) (s : State) : Host.Outcome State Fault Refusal :=
  match i with
  | .writeItem code value => Sys2Proof.Machine.execWriteItem code value s
  | .holidayAdd value => Sys2Proof.Machine.execHolidayAdd value s
  | .holidayClear value => Sys2Proof.Machine.execHolidayClear value s
  | .readItem code => Sys2Proof.Machine.execReadItem code s
  | .setClock day second => Sys2Proof.Machine.execSetClock day second s
  | .trimClock seconds => Sys2Proof.Machine.execTrimClock seconds s
  | .commission => Sys2Proof.Machine.execCommission s
  | .quiet => Sys2Proof.Machine.execQuiet s
  | .speak => Sys2Proof.Machine.execSpeak s
  | .snapshot => Sys2Proof.Machine.execSnapshot s
  | .fetchRecord => Sys2Proof.Machine.execFetchRecord s
  | .releaseRecord => Sys2Proof.Machine.execReleaseRecord s
  | .clearQueue => Sys2Proof.Machine.execClearQueue s
  | .readStatus => Sys2Proof.Machine.execReadStatus s
  | .readCause => Sys2Proof.Machine.execReadCause s
  | .setEnables enables master mode => Sys2Proof.Machine.execSetEnables enables master mode s
  | .readWindow selector => Sys2Proof.Machine.execReadWindow selector s
  | .readPeer address => Sys2Proof.Machine.execReadPeer address s
  | .readTotals => Sys2Proof.Machine.execReadTotals s
  | .readLine => Sys2Proof.Machine.execReadLine s
  | .clearFailure => Sys2Proof.Machine.execClearFailure s
  | .restartLine => Sys2Proof.Machine.execRestartLine s
  | .resetConverter => Sys2Proof.Machine.execResetConverter s
  | .lineTestMode mode => Sys2Proof.Machine.execLineTestMode mode s
  | .sendTest => Sys2Proof.Machine.execSendTest s
  | .reset => Sys2Proof.Machine.execReset s
  | .unknownCommand octet => Sys2Proof.Machine.execUnknownCommand octet s
  | .ssnFalling => Sys2Proof.Machine.execSsnFalling s
  | .ssnRising => Sys2Proof.Machine.execSsnRising s
  | .rstnFalling => Sys2Proof.Machine.execRstnFalling s
  | .rstnRising => Sys2Proof.Machine.execRstnRising s
  | .flowPulse circuit => Sys2Proof.Machine.execFlowPulse circuit s
  | .pfailnFalling => Sys2Proof.Machine.execPfailnFalling s
  | .pfailnRising => Sys2Proof.Machine.execPfailnRising s
  | .recoveryEnd => Sys2Proof.Machine.execRecoveryEnd s
  | .countedSecondEnd => Sys2Proof.Machine.execCountedSecondEnd s
  | .slewStep => Sys2Proof.Machine.execSlewStep s
  | .cycleEvent hs hr cs cr => Sys2Proof.Machine.execCycleEvent hs hr cs cr s
  | .converterRestartEnd => Sys2Proof.Machine.execConverterRestartEnd s
  | .windowBoundary => Sys2Proof.Machine.execWindowBoundary s
  | .dayBoundary => Sys2Proof.Machine.execDayBoundary s
  | .graceExpiry => Sys2Proof.Machine.execGraceExpiry s
  | .idleGap => Sys2Proof.Machine.execIdleGap s
  | .lineOctetReceived octet stopBit => Sys2Proof.Machine.execLineOctetReceived octet stopBit s
  | .frameReceived => Sys2Proof.Machine.execFrameReceived s
  | .backoffExpiry => Sys2Proof.Machine.execBackoffExpiry s
  | .txCollision => Sys2Proof.Machine.execTxCollision s
  | .txSuccess => Sys2Proof.Machine.execTxSuccess s
  | .lineStuck => Sys2Proof.Machine.execLineStuck s
  | .irqnPulseEnd => Sys2Proof.Machine.execIrqnPulseEnd s
  | .startBit => Sys2Proof.Machine.execStartBit s

end Sys2Proof.Machine
end

