-- ==== Sys2Proof/Safety.lean ====
section
/-! DEFINITION. What holds of a sound station, block by block: the relations the rules state between its fields. Each is
stated so that every step keeps it, from any state that has it. -/

namespace Sys2Proof.Machine

/-! ### Terms the statements use -/

/-- R181, R182: a host command can be taken: RSTN is high, and a transaction is open in which no command was taken. -/
def State.portOpen (s : State) : Prop := s.rstnHigh = true ∧ s.port.phase = .opened

/-- R182: the state after a command was taken with a status and response octets. -/
def State.answered (s : State) (status : Status) (body : List Octet) : State :=
  { s with port := { phase := .taken, response := status.code :: body } }

/-- R184: the station states in which a host command passes the state check. -/
def acceptedIn (c : Instr) (state : StationState) : Bool :=
  match c with
  | .writeItem _ _ | .holidayAdd _ | .holidayClear _ | .setClock _ _ | .commission | .lineTestMode _ | .sendTest =>
    state == .unconfigured
  | .trimClock _ | .speak | .snapshot | .restartLine | .resetConverter => state != .unconfigured
  | .quiet => state == .running || state == .quieting || state == .quiet
  | _ => true

/-! ### The station as a whole -/

/-- R179: while RSTN is low the station stands at its full-reset values. -/
def HeldAtReset (s : State) : Prop := s.rstnHigh = false → s.fullReset = s

/-- R164, R166, R173: the station state, the flags that go with it, and the supply mode. -/
structure StationOk (s : State) : Prop where
  /-- R164: the commissioned flag is SET exactly while the state is other than UNCONFIGURED. -/
  flag : s.station.commissioned = true ↔ s.station.state ≠ .unconfigured
  /-- R26, R180: boundary generation is ON exactly while commissioned. -/
  boundary : s.timebase.boundaryOn = s.station.commissioned
  /-- R166: a commissioned station has a valid clock and the three required items. -/
  required : s.station.commissioned = true → s.complete = true
  /-- R90: CURRENT is present exactly while commissioned. -/
  current : s.contexts.current.isSome = s.station.commissioned
  /-- R131: line-test mode is always OFF outside UNCONFIGURED. -/
  testMode : s.transmitter.testMode ≠ .off → s.station.state = .unconfigured
  /-- R173: RECOVERING does not occur in UNCONFIGURED. -/
  recovering : s.station.supplyMode = .recovering → s.station.state ≠ .unconfigured
  /-- R173: BACKUP is the mode of a low PFAILN. -/
  backup : s.station.supplyMode = .backup ↔ s.pfailnHigh = false
  /-- R164: the recovery count runs in RECOVERING only. -/
  recovery : s.station.recoveryCount ≤ 2 ∧ (s.station.supplyMode ≠ .recovering → s.station.recoveryCount = 0)

/-! ### Configuration items and calendar (R36, R37, R177) -/

/-- A list of numbers in strictly ascending order. -/
def Ascending (l : List Nat) : Prop := l.Pairwise (· < ·)

/-- R37, R177: every item lies in its range. -/
structure ItemsOk (s : State) : Prop where
  address : ∀ a, s.items.stationAddress = some a → 1 ≤ a ∧ a ≤ 64
  expected : 1 ≤ s.items.expected ∧ s.items.expected ≤ 64
  weight : s.items.weight < 65536
  pulse : ∀ p, 1 ≤ s.items.pulse.get p ∧ s.items.pulse.get p ≤ 10000
  dtCutoff : s.items.dtCutoff ≤ 200
  grace : 30 ≤ s.items.grace ∧ s.items.grace ≤ 900
  /-- R26: after COMMISSION the grace is at most half the window length. -/
  clamped : s.station.state ≠ .unconfigured → s.items.grace ≤ s.items.length.seconds / 2
  skewLimit : 2 ≤ s.items.skewLimit ∧ s.items.skewLimit ≤ 60
  queueAlertLevel : s.items.queueAlertLevel ≤ 7
  epochWeekday : s.calendar.epochWeekday ≤ 6
  rate : ∀ p b, (s.items.rate.get p).get b < 65536
  holidays : Ascending s.calendar.holidays ∧ s.calendar.holidays.length ≤ 16 ∧ ∀ d ∈ s.calendar.holidays, d < 65536

/-! ### Timebase (R22 to R34) -/

/-- R22 to R34: the Timebase's fields. -/
structure ClockOk (s : State) : Prop where
  secondOfDay : s.timebase.secondOfDay < 86400
  day : s.timebase.day < 65536
  /-- R22: an invalid clock stands at 0. -/
  invalid : s.timebase.clockValid = false → s.timebase.secondOfDay = 0 ∧ s.timebase.day = 0
  /-- R24: before COMMISSION nothing but the time of day moves. -/
  off : s.timebase.boundaryOn = false →
    s.timebase = { Timebase.reset with
      clockValid := s.timebase.clockValid, secondOfDay := s.timebase.secondOfDay, day := s.timebase.day,
      secondFraction := s.timebase.secondFraction }
  /-- R26, R28: the time of day is the window in progress and the seconds of it that have passed. -/
  window : s.timebase.boundaryOn = true →
    s.timebase.secondOfDay = s.timebase.windowInDay * s.items.length.seconds + s.timebase.secondsInWindow
  inWindow : s.timebase.secondsInWindow < s.items.length.seconds
  /-- R26, R27: the cycle phase is the parity of the time of day. -/
  phase : s.timebase.boundaryOn = true → s.timebase.cyclePhase = s.timebase.secondOfDay % 2
  /-- R33, R34: slew remaining and the slew count stay in their ranges. -/
  slew : -120 ≤ s.timebase.slewRemaining ∧ s.timebase.slewRemaining ≤ 120
  slewCount : s.timebase.slewCount ≤ 7

/-! ### Window Table (R40 to R45) -/

/-- R40 to R45: the three places and the closed-report record. -/
structure WindowsOk (s : State) : Prop where
  /-- R40: OPEN and AHEAD are present in every station state except UNCONFIGURED, where the table is empty. -/
  opened : s.windows.openEntry.isSome = true ↔ s.station.state ≠ .unconfigured
  ahead : s.windows.aheadEntry.isSome = s.windows.openEntry.isSome
  empty : s.station.state = .unconfigured → s.windows = .reset
  /-- R40: AHEAD holds window OPEN + 1. -/
  aheadIndex : ∀ o a, s.windows.openEntry = some o → s.windows.aheadEntry = some a →
    a.index = indexAfter s.items.length o.index 1
  /-- R40: GRACE holds window OPEN - 1. -/
  graceIndex : ∀ g o, s.windows.graceEntry = some g → s.windows.openEntry = some o →
    o.index = indexAfter s.items.length g.index 1
  /-- R30, R40: GRACE is present while a grace expiry is awaited. -/
  armed : s.windows.graceEntry.isSome = s.timebase.graceArmed
  /-- R43: every OPEN and AHEAD entry holds NONE. -/
  openStatus : ∀ e, s.windows.openEntry = some e → e.reportStatus = .undecided
  aheadStatus : ∀ e, s.windows.aheadEntry = some e → e.reportStatus = .undecided
  graceStatus : ∀ e, s.windows.graceEntry = some e → e.reportStatus ≠ .undecided
  closedStatus : ∀ c, s.windows.closedReport = some c → c.status ≠ .undecided
  /-- R41: an AHEAD entry has its own figures at 0 and no flag set. -/
  aheadOwn : ∀ e, s.windows.aheadEntry = some e → e.own = .both .fresh ∧ e.reverseCount = 0

/-! ### Peers and contributors (R42, R152) -/

/-- An address a peer of the station can have: 1 to 64, not the station's own. -/
def PeerAddress (i : Items) (a : Nat) : Prop := 1 ≤ a ∧ a ≤ 64 ∧ i.stationAddress ≠ some a

/-- R42: a contributor set. -/
def ContributorsOk (i : Items) (l : List Nat) : Prop := Ascending l ∧ ∀ a ∈ l, PeerAddress i a

/-- R42, R152: the Peer Table and the contributor sets. -/
structure PeersOk (s : State) : Prop where
  ascending : Ascending (s.peers.map PeerEntry.address)
  addresses : ∀ p ∈ s.peers, PeerAddress s.items p.address
  empty : s.station.state = .unconfigured → s.peers = []
  missed : ∀ p ∈ s.peers, p.missed ≤ 15
  grace : ∀ e, s.windows.graceEntry = some e → ContributorsOk s.items e.contributors
  opened : ∀ e, s.windows.openEntry = some e → ContributorsOk s.items e.contributors
  ahead : ∀ e, s.windows.aheadEntry = some e → ContributorsOk s.items e.contributors

/-! ### Record Queue and saturating fields (R76, R97, R100 to R105) -/

/-- R100, R101: at most eight records, and the overflow slot is in use only beside a full queue. -/
def QueueOk (s : State) : Prop :=
  s.records.queue.length ≤ 8 ∧ (s.records.overflow.isSome = true → s.records.queue.length = 8)

/-- Four band fields within 48 bits. -/
def BandsFit (x : PerBand Nat) : Prop := ∀ b, x.get b < 2 ^ 48

/-- R89, R94: the summed figures within their widths. -/
structure FiguresFit (f : Figures) : Prop where
  energy : ∀ p, BandsFit (f.energy.get p)
  commonShare : ∀ p, BandsFit (f.commonShare.get p)
  complexEnergy : ∀ p, f.complexEnergy.get p < 2 ^ 48
  unmetered : f.unmetered < 2 ^ 48
  reverseCount : f.reverseCount < 2 ^ 32
  counts : f.counts.closed < 65536 ∧ f.counts.complete < 65536 ∧ f.counts.estimated < 65536 ∧
    f.counts.faulted < 65536 ∧ f.counts.backup < 65536 ∧ f.counts.partialWindows < 65536 ∧
    f.counts.unapportioned < 65536 ∧ f.counts.contributorsHeard < 65536 ∧ f.counts.estimatedContributors < 65536
  dispositions : f.dispositions.late < 65536 ∧ f.dispositions.duplicate < 65536 ∧ f.dispositions.farAhead < 65536
  addressClashes : f.addressClashes < 65536

/-- R110: four error counters within 16 bits. -/
def RxErrorsFit (e : RxErrors) : Prop := e.framing < 65536 ∧ e.stray < 65536 ∧ e.length < 65536 ∧ e.crc < 65536

/-- R94, R97, R102: a record's figures, counts and costs within their widths. -/
structure RecordFits (r : Record) : Prop where
  figures : FiguresFit r.figures
  rxErrors : RxErrorsFit r.rxErrors
  merged : 1 ≤ r.mergedCount ∧ r.mergedCount < 65536
  energyCost : ∀ p, r.energyCost.get p < 2 ^ 48
  commonCost : ∀ p, r.commonCost.get p < 2 ^ 48

/-- R151: a Peer Entry's missed count and its four disposition counts within their ranges. -/
def PeerCountsFit (p : PeerEntry) : Prop :=
  p.missed ≤ 15 ∧ p.accepted < 65536 ∧ p.late < 65536 ∧ p.duplicate < 65536 ∧ p.farAhead < 65536

/-- R55, R76, R97, R102, R105, R110, R131, R151: every saturating field of contexts, records, receiver, transmitter and Peer
Table within its width. -/
structure FieldsFit (s : State) : Prop where
  current : ∀ c, s.contexts.current = some c → FiguresFit c.figures
  closing : ∀ c, s.contexts.closing = some c → FiguresFit c.figures ∧ ∀ e, c.rxSnapshot = some e → RxErrorsFit e
  queue : ∀ r ∈ s.records.queue, RecordFits r
  overflow : ∀ r, s.records.overflow = some r → RecordFits r
  discarded : s.records.discarded < 65536
  errors : RxErrorsFit s.receiver.errors
  /-- R110: the receiver's other four counters. -/
  received : s.receiver.ignored < 65536 ∧ s.receiver.incompatible < 65536 ∧ s.receiver.addressClashes < 65536 ∧
    s.receiver.testEchoes < 65536
  /-- R131: the transmitter's three counters. -/
  sent : s.transmitter.framesSent < 65536 ∧ s.transmitter.collisions < 65536 ∧ s.transmitter.giveUps < 65536
  peers : ∀ p ∈ s.peers, PeerCountsFit p

/-! ### Metering (R1, R2, R9 to R13) -/

/-- R1, R9 to R13: one circuit meter. -/
structure MeterOk (m : CircuitMeter) : Prop where
  held : (-2000 ≤ m.heldSupply ∧ m.heldSupply ≤ 13000) ∧ (-2000 ≤ m.heldReturn ∧ m.heldReturn ≤ 13000)
  residue : m.residue < 100000
  pulses : m.pulseCounter ≤ 255 ∧ m.latched ≤ 255
  lifetimes : m.lifetimeEnergy < 2 ^ 64 ∧ m.lifetimeVolume < 2 ^ 64
  absent : m.state = .absent → m = .reset
  normal : m.state = .normal → m.holdCount = 0 ∧ m.goodRun = 0
  holding : m.state = .holding → 1 ≤ m.holdCount ∧ m.holdCount ≤ 7 ∧ m.goodRun = 0
  fault : m.state = .fault → m.holdCount = 8 ∧ m.goodRun ≤ 1

/-- R1, R2, R6, R8: both meters and the converter. -/
structure MeteringOk (s : State) : Prop where
  heat : MeterOk s.meters.heat
  cool : MeterOk s.meters.cool
  unconfigured : s.station.state = .unconfigured → s.meters = .both .reset
  restart : s.converter.restartCount ≤ 2 ∧ (s.converter.state = .running → s.converter.restartCount = 0)
  backup : s.converter.backupCount ≤ 7 ∧ (s.station.supplyMode ≠ .backup → s.converter.backupCount = 0)

/-! ### Receiver (R110 to R116) -/

/-- R115, R116, R120: the octets of a frame in progress: no more than the kind's length gives. -/
def FrameShape (frame : List Octet) : Prop :=
  match frame with
  | [] => False
  | [lead] => lead = leadOctet
  | [lead, kind] => lead = leadOctet ∧ (payloadLength kind).isSome = true
  | lead :: kind :: length :: rest =>
    lead = leadOctet ∧ payloadLength kind = some length.toNat ∧ rest.length ≤ length.toNat + 2

/-- R110, R112 to R116: the Line Receiver. -/
structure ReceiverOk (s : State) : Prop where
  /-- R113: the parser is OFF exactly while the receiver is off. -/
  off : s.receiver.parser = .off ↔ s.receiverOn = false
  rest : s.receiver.parser = .off → s.receiver.gapTimer = 0 ∧ s.receiver.charInProgress = false
  gap : s.receiver.gapTimer ≤ 4
  /-- R114: the parser is HELD exactly during an attempt with line-test mode OFF. -/
  held : s.receiver.parser = .held ↔ s.transmitter.state = .sending ∧ s.transmitter.testMode = .off
  /-- R110: a frame is in progress in IN_FRAME only, and at most 37 octets long. -/
  noFrame : s.receiver.parser ≠ .inFrame → s.receiver.frame = []
  frame : s.receiver.parser = .inFrame → FrameShape s.receiver.frame
  /-- R145, R174: no attempt runs with the receiver off. -/
  attempt : s.transmitter.state = .backoff ∨ s.transmitter.state = .sending → s.receiverOn = true

/-! ### Transmitter (R131 to R147) -/

/-- R132: what the report slot may hold in a station state. -/
def ReportContent.suits (state : StationState) : ReportContent → Prop
  | .windowReport _ => state ≠ .unconfigured
  | .lineTest _ => state = .unconfigured

/-- R147: a station is QUIETING only while the notice last requested announces QUIET and has not ended. -/
def Transmitter.quietPending (t : Transmitter) : Prop :=
  t.followOn = some .quiet ∨ (t.followOn = none ∧ ∃ n, t.notice = some n ∧ n.notice.announced = .quiet)

/-- R131 to R137, R143, R147: the Line Transmitter and its queue. -/
structure LineQueueOk (s : State) : Prop where
  /-- R133: IDLE is having no current frame. -/
  idle : s.transmitter.state = .idle ↔ s.transmitter.current = none
  /-- R133: outside SENDING the current frame is the report if there is one, else the notice. -/
  choice : s.transmitter.state ≠ .sending → s.transmitter.current = s.transmitter.wanted
  reportCurrent : s.transmitter.current = some .report → s.transmitter.report.isSome = true
  noticeCurrent : s.transmitter.current = some .notice → s.transmitter.notice.isSome = true
  /-- R134: a follow-on state is recorded during a notice's transmission only. -/
  followOn : s.transmitter.followOn ≠ none → s.transmitter.isSending .notice = true
  /-- R63: the expired mark is a mark of the report in transmission. -/
  expired : ∀ r, s.transmitter.report = some r → r.expired = true → s.transmitter.isSending .report = true
  /-- R131, R137: backoff slots are counted in BACKOFF only. -/
  backoff : s.transmitter.backoffSlots ≤ 127 ∧ (s.transmitter.state ≠ .backoff → s.transmitter.backoffSlots = 0)
  /-- R131, R143: the stuck timer stands above 0 in WAIT_IDLE only. -/
  stuck : s.transmitter.stuckTimer ≤ stuckLimit ∧
    (s.transmitter.state ≠ .waitIdle → s.transmitter.stuckTimer = 0)
  /-- R64, R141: a queued frame has collided fewer than eight times, but for a report whose eighth collision met its grace
  expiry: it waits for the expiry of that moment, or has been marked expired since. -/
  reportAttempts : ∀ r, s.transmitter.report = some r →
    r.attempts < 8 ∨ r.attempts = 8 ∧ (r.expired = true ∨ s.expiryFollows r.content = true)
  noticeAttempts : ∀ n, s.transmitter.notice = some n → n.attempts < 8
  /-- R28, R30: no second's end issues a window boundary and a grace expiry together. -/
  oneMoment : s.timebase.due.windowBoundary = true → s.timebase.due.graceExpiry = false
  /-- R132: Line Tests in UNCONFIGURED only; Window Reports and notices in a commissioned station only. -/
  reportKind : ∀ r, s.transmitter.report = some r → r.content.suits s.station.state
  noticeKind : s.station.state = .unconfigured → s.transmitter.notice = none
  /-- R147: a QUIETING station has its QUIET notice in the queue. -/
  quieting : s.station.state = .quieting → s.transmitter.quietPending

/-! ### Cause Unit (R186, R191) -/

/-- R191: a pulse is in progress only in PULSE mode with the master enable on. -/
def CausesOk (s : State) : Prop := s.causes.pulse = true → s.causes.mode = .pulse ∧ s.causes.master = true

end Sys2Proof.Machine
end

