-- ==== Sys2Proof/WellFormed.lean ====
section
/-! DEFINITION. Which commands are well formed: an UNKNOWN_COMMAND whose octet names no command, and a WRITE_ITEM whose
item code is not one of the two Holiday List items, which have rows of their own. -/

namespace Sys2Proof

/-- R183, R197: the operands a row may carry. Every other operand value is the spec's own business: the command is taken
and answered. -/
def Instr.wellFormed (c : Instr) : Bool :=
  match c with
  | .unknownCommand octet => !namesCommand octet
  | .writeItem code _ => code != holidayAddCode && code != holidayClearCode
  | .holidayAdd _ | .holidayClear _ | .readItem _ | .setClock _ _ | .trimClock _ | .commission | .quiet | .speak
  | .snapshot | .fetchRecord | .releaseRecord | .clearQueue | .readStatus | .readCause | .setEnables _ _ _
  | .readWindow _ | .readPeer _ | .readTotals | .readLine | .clearFailure | .restartLine | .resetConverter
  | .lineTestMode _ | .sendTest | .reset | .ssnFalling | .ssnRising | .rstnFalling | .rstnRising | .flowPulse _
  | .pfailnFalling | .pfailnRising | .recoveryEnd | .countedSecondEnd | .slewStep | .cycleEvent _ _ _ _
  | .converterRestartEnd | .windowBoundary | .dayBoundary | .graceExpiry | .idleGap | .lineOctetReceived _ _
  | .frameReceived | .backoffExpiry | .txCollision | .txSuccess | .lineStuck | .irqnPulseEnd | .startBit => true

end Sys2Proof
end

