-- ==== Sys2Proof/Certificates/Slice0/Obligations.lean ====
section
/-! DEFINITION. The statements about the Zeptal 410, in the order of OBLIGATIONS.json: the queue and the host port, the
configuration, the Timebase, metering, windows and contexts, the line, the Station Controller, the Cause Unit, and what every
step keeps. A command's next state is written as a record update of the state before it: what the update does not name is
unchanged. -/

open Sys2Proof Sys2Proof.Machine

/-! ### The queue and the host port -/

/-- A step runs the command at the front of the queue, and leaves the queue's rest waiting. -/
def Obligations.StepTakesTheFrontCommand : Prop :=
  ∀ (c : Instr) (rest : List Instr) (s : State),
    step { s with pending := c :: rest } = exec c { s with pending := rest }

/-- R22, R112, R137, R143: on an empty queue a step lets one character time at the line rate pass and moves four timers, each
where it runs: the second fraction of a valid clock; the gap timer, with the receiver on, no character in progress and the
source not held at space; the backoff slots in BACKOFF; the stuck timer in WAIT_IDLE with the receiver on. No time passes
while an event is outstanding, a frame waits to be judged, a pulse is in progress, RSTN is low, or a timer that runs would
reach the end that is a command's own event; the step then changes nothing. That time passes on an empty queue, and where it
stops, is the model's choice (log entry 6), as is the level of the source (log entry 32). -/
def Obligations.IdleStepMovesTimersOnly : Prop :=
  ∀ s : State, s.pending = [] →
    let b := s.timebase
    let unit := s.items.lineRate.characterTime
    let gapRuns := s.receiverOn = true ∧ s.receiver.charInProgress = false ∧
      ¬(s.receiver.lrxAtSpace = true ∧ s.transmitter.testMode ≠ .internal) ∧ s.receiver.gapTimer < 4
    let stuckRuns := s.transmitter.state = .waitIdle ∧ s.receiverOn = true ∧ s.transmitter.stuckTimer < 15360
    let passes :=
      s.rstnHigh = true ∧ b.due = ⟨false, false, false, false, false⟩ ∧
      ¬(s.converter.state = .restarting ∧ s.converter.restartCount = 0) ∧
      ¬(s.station.supplyMode = .recovering ∧ s.station.recoveryCount = 0) ∧
      frameComplete s.receiver.frame = false ∧ s.causes.pulse = false ∧
      (b.clockValid = true → b.secondFraction + unit < b.secondLength.units) ∧
      (gapRuns → s.receiver.gapTimer + 1 < 4) ∧
      (s.transmitter.state = .backoff → 1 < s.transmitter.backoffSlots) ∧
      (stuckRuns → s.transmitter.stuckTimer + unit < 15360)
    (¬passes → step s = .next s) ∧
    (passes → ∃ fraction gap slots stuck : Nat,
      step s = .next
        { s with
          timebase := { b with secondFraction := fraction }
          receiver := { s.receiver with gapTimer := gap }
          transmitter := { s.transmitter with backoffSlots := slots, stuckTimer := stuck } } ∧
      (b.clockValid = true → fraction = b.secondFraction + unit) ∧
      (b.clockValid = false → fraction = b.secondFraction) ∧
      (gapRuns → gap = s.receiver.gapTimer + 1) ∧ (¬gapRuns → gap = s.receiver.gapTimer) ∧
      (s.transmitter.state = .backoff → slots + 1 = s.transmitter.backoffSlots) ∧
      (s.transmitter.state ≠ .backoff → slots = s.transmitter.backoffSlots) ∧
      (stuckRuns → stuck = s.transmitter.stuckTimer + unit) ∧ (¬stuckRuns → stuck = s.transmitter.stuckTimer))

/-- Every well-formed command answers a next state, from any state, and leaves the queue as it stands; the one ill-formed
term that stops is an UNKNOWN_COMMAND whose octet names a command (the model's choice, log entry 23). -/
def Obligations.EveryWellFormedCommandCompletes : Prop :=
  ∀ (c : Instr) (s : State),
    (c.wellFormed = true → ∃ t, exec c s = .next t ∧ t.pending = s.pending) ∧
    (∀ octet, c = .unknownCommand octet → namesCommand octet = true → exec c s = .fault (.illFormedCommand octet))

/-- R181, R196: the octets of a well-formed host command spell that command, with every argument at every value; octets that
take a command spell it in that one way, the command is taken at its last argument octet and no earlier, and a command octet
takes its command exactly when its own number of argument octets has followed. -/
def Obligations.TransactionsSpellCommands : Prop :=
  (∀ (c : Instr) (l : List Octet), c.wellFormed = true → encodeTransaction c = some l → decodeTransaction l = some c) ∧
  ((∀ (l : List Octet) (c : Instr), decodeTransaction l = some c →
     c.wellFormed = true ∧ encodeTransaction c = some l ∧ ∀ k, k < l.length → decodeTransaction (l.take k) = none) ∧
   (∀ (code : Octet) (arguments : List Octet) (n : Nat), argumentOctets code = some n →
     ((decodeTransaction (code :: arguments)).isSome = true ↔ arguments.length = n)) ∧
   (∀ (code : Octet) (arguments : List Octet), argumentOctets code = none →
     decodeTransaction (code :: arguments) = if arguments = [] then some (.unknownCommand code) else none))

/-- R181 to R183, R196: SSN falling opens a transaction, which is ignored while RSTN is low; SSN rising ends it with what was
not shifted out; an octet that names no command is answered UNKNOWN_COMMAND and changes nothing; and outside an open
transaction no host command has any effect. MISO is not driven while SSN is high; it carries 0x00 in the command and
argument octets, in an ignored transaction and after RESET; from the octet after the taking it carries the status octet,
the response octets and then 0x00, each octet from its most significant bit. -/
def Obligations.TransactionsAtThePort : Prop :=
  ∀ s : State,
    (s.port.phase = .idle →
      exec .ssnFalling s = .next { s with port := ⟨if s.rstnHigh then .opened else .ignored, []⟩ }) ∧
    (s.port.phase ≠ .idle → exec .ssnFalling s = .next s) ∧
    exec .ssnRising s = .next { s with port := ⟨.idle, []⟩ } ∧
    (s.portOpen → ∀ octet, namesCommand octet = false →
      exec (.unknownCommand octet) s = .next (s.answered .unknownCommand [])) ∧
    (¬s.portOpen → ∀ c, c.wellFormed = true → (encodeTransaction c).isSome = true → exec c s = .next s) ∧
    (s.port.phase = .idle → ∀ bit, s.miso bit = none) ∧
    (s.port.phase = .opened ∨ s.port.phase = .ignored → ∀ bit, s.miso bit = some false) ∧
    (∀ (status : Status) (body : List Octet) (n k : Nat), k < 8 →
      (s.answered status body).miso (8 * n + k) =
        some (((Status.code status :: body)[n]?.getD 0x00).getLsbD (7 - k))) ∧
    (∃ t, exec .ssnRising s = .next t ∧ ∀ bit, t.miso bit = none) ∧
    (s.portOpen → ∃ t, exec .reset s = .next t ∧ ∀ bit, t.miso bit = some false)

/-- R184: the table of station states. Where the table refuses a command it is answered NOT_NOW and changes nothing; where
the table accepts it, it is taken and answered otherwise, but for SEND TEST, whose own condition gives NOT_NOW too (R149),
and RESET, which gives no status (R179). -/
def Obligations.StationStateTable : Prop :=
  ∀ (c : Instr) (s : State), StationOk s → s.portOpen → c.wellFormed = true → (encodeTransaction c).isSome = true →
    (acceptedIn c s.station.state = false → exec c s = .next (s.answered .notNow [])) ∧
    (acceptedIn c s.station.state = true → c ≠ .sendTest → c ≠ .reset →
      ∃ t status body, exec c s = .next t ∧ t.port = ⟨.taken, Status.code status :: body⟩ ∧ status ≠ .notNow)

/-- R182, R183: a taken command other than RESET is answered with one of the nine statuses, and one answered with a status
other than OK or CLAMPED changes nothing but the port and gives response octets of 0x00. -/
def Obligations.RefusalsChangeNothing : Prop :=
  ∀ (c : Instr) (s t : State), s.portOpen → (encodeTransaction c).isSome = true → c ≠ .reset → exec c s = .next t →
    ∃ (status : Status) (body : List Octet),
      t.port = ⟨.taken, status.code :: body⟩ ∧
      (status ≠ .ok → status ≠ .clamped → t = s.answered status body ∧ ∀ o ∈ body, o = 0x00)

/-! ### The responses that read state -/

/-- R185, R187, R193, R196, R198: READ STATUS answers OK with 46 octets, each field at its offset, and changes nothing else.
Slew remaining is shown as it stands once a slew step that is due has been taken, which is the model's choice (log entry 4).
Written out besides, for this response and the others: how a field is read, its most significant octet first, and as numbers
every code of R193, the nine status codes of R196, and the causes' numbers with their bits of the cause word. -/
def Obligations.ReadStatusLayout : Prop :=
  (∀ (l : List Octet) (i : Nat), octetAt l i = (l[i]?).getD 0x00 ∧ fieldAt l i 0 = 0 ∧
    ∀ n, i + n < l.length → fieldAt l i (n + 1) = 256 * fieldAt l i n + (octetAt l (i + n)).toNat) ∧
  ([false, true].map markOctet = [0x00, 0x01] ∧
    [Role.tenant, .common].map Role.code = [0x01, 0x02] ∧
    [StationState.unconfigured, .joining, .running, .quieting, .quiet].map StationState.code =
      [0x00, 0x01, 0x02, 0x03, 0x04] ∧
    [NoticeState.joining, .running, .quiet].map NoticeState.code = [0x01, 0x02, 0x04] ∧
    [SupplyMode.mains, .backup, .recovering].map SupplyMode.code = [0x00, 0x01, 0x02] ∧
    [SkewStatus.noSkew, .behind, .ahead].map SkewStatus.code = [0x00, 0x01, 0x02] ∧
    [ReportStatus.undecided, .pending, .sent, .stale, .suppressed, .discarded].map ReportStatus.code =
      [0x00, 0x01, 0x02, 0x03, 0x04, 0x05] ∧
    [PeerState.present, .quiet, .silent, .incompatible].map PeerState.code = [0x01, 0x02, 0x03, 0x04] ∧
    [RecordKind.finalRecord, .interim, .merged].map RecordKind.code = [0x01, 0x02, 0x03] ∧
    [CircuitState.absent, .normal, .holding, .fault].map CircuitState.code = [0x00, 0x01, 0x02, 0x03] ∧
    [ConverterState.running, .restarting].map ConverterState.code = [0x00, 0x01] ∧
    [ReadingStatus.valid, .range, .openCircuit, .shortCircuit, .noReading].map ReadingStatus.code =
      [0x00, 0x01, 0x02, 0x03, 0x04] ∧
    [TxState.idle, .waitIdle, .backoff, .sending].map TxState.code = [0x00, 0x01, 0x02, 0x03] ∧
    [ParserState.off, .held, .waitGap, .afterFrame, .ready, .inFrame].map ParserState.code =
      [0x00, 0x01, 0x02, 0x03, 0x04, 0x05] ∧
    [TxFailure.noFailure, .collisionLimit, .stale, .lineStuck, .abortedBySupply].map TxFailure.code =
      [0x00, 0x01, 0x02, 0x03, 0x04] ∧
    [LineTestMode.off, .internal, .external].map LineTestMode.code = [0x00, 0x01, 0x02] ∧
    [IrqMode.level, .pulse].map IrqMode.code = [0x00, 0x01] ∧
    [Place.grace, .opened, .ahead].map Place.code = [0x00, 0x01, 0x02] ∧
    [Status.ok, .clamped, .notNow, .badItem, .badValue, .empty, .queueFull, .incomplete, .unknownCommand].map Status.code =
      [0x01, 0x02, 0x03, 0x04, 0x05, 0x06, 0x07, 0x08, 0x09] ∧
    [Cause.addressClash, .queueOverrun, .sensorFault, .clockSkew, .txFailure, .peerIncompatible, .queueAlert,
      .recordReady, .supplyChange, .flowOverrange].map Cause.number = [1, 2, 3, 4, 5, 6, 7, 8, 9, 10]) ∧
  (∀ (flags : BitVec 10) (c : Cause), flagOf flags c = flags.getLsbD (c.number - 1)) ∧
  ∀ s : State, s.portOpen → ∃ r : List Octet, exec .readStatus s = .next (s.answered .ok r) ∧ r.length = 46 ∧
    octetAt r 0 = s.station.state.code ∧ octetAt r 1 = markOctet s.station.commissioned ∧
    octetAt r 2 = s.station.supplyMode.code ∧ fieldAt r 3 1 = s.station.recoveryCount % 256 ∧
    octetAt r 4 = s.station.skew.code ∧ fieldAt r 5 2 = s.station.digest % 65536 ∧
    octetAt r 7 = markOctet s.timebase.clockValid ∧ fieldAt r 8 2 = s.timebase.day % 65536 ∧
    fieldAt r 10 3 = s.timebase.secondOfDay % 16777216 ∧ fieldAt r 13 2 = s.timebase.windowInDay % 65536 ∧
    fieldAt r 15 2 = s.timebase.secondsInWindow % 65536 ∧
    (s.timebase.due.slewStep = false → (fieldAt r 17 1 : Int) = s.timebase.slewRemaining % 256) ∧
    (s.timebase.due.slewStep = true →
      (fieldAt r 17 1 : Int) =
        (if 0 < s.timebase.slewRemaining then s.timebase.slewRemaining - 1
          else if s.timebase.slewRemaining < 0 then s.timebase.slewRemaining + 1 else 0) % 256) ∧
    fieldAt r 18 4 =
      (if s.timebase.boundaryOn then
        (s.timebase.day * s.items.length.perDay + s.timebase.windowInDay) % (65536 * s.items.length.perDay)
      else 0) ∧
    (s.windows.closedReport = none → fieldAt r 22 6 = 0) ∧
    (∀ k, s.windows.closedReport = some k →
      octetAt r 22 = 0x01 ∧ fieldAt r 23 4 = k.index % 4294967296 ∧ octetAt r 27 = k.status.code) ∧
    fieldAt r 28 1 = s.records.queue.length % 256 ∧ octetAt r 29 = markOctet s.records.overflow.isSome ∧
    fieldAt r 30 2 = ((s.records.overflow.map Record.mergedCount).getD 0) % 65536 ∧
    fieldAt r 32 2 = s.records.discarded % 65536 ∧ fieldAt r 34 1 = s.peers.length % 256 ∧
    fieldAt r 35 1 = s.peers.countP (fun p => p.state = .present) % 256 ∧
    fieldAt r 36 1 = s.peers.countP (fun p => p.state = .quiet) % 256 ∧
    fieldAt r 37 1 = s.peers.countP (fun p => p.state = .silent) % 256 ∧
    fieldAt r 38 1 = s.peers.countP (fun p => p.state = .incompatible) % 256 ∧
    fieldAt r 39 2 = s.causes.pending.toNat ∧ fieldAt r 41 2 = s.causes.enables.toNat ∧
    octetAt r 43 = markOctet s.causes.master ∧ octetAt r 44 = s.causes.mode.code ∧
    octetAt r 45 = markOctet s.irqnAsserted

/-- R66, R193, R199: READ WINDOW answers OK with the 92 octets of the entry in the selected place, the contributor map marking
exactly the contributors; EMPTY where the place is empty and BAD_VALUE where the selector names none, both with 92 octets
of 0x00. It changes nothing else. -/
def Obligations.ReadWindowLayout : Prop :=
  ∀ (s : State) (selector : Octet), s.portOpen →
    (2 < selector.toNat → exec (.readWindow selector) s = .next (s.answered .badValue (List.replicate 92 0x00))) ∧
    ∀ place : Option WindowEntry,
      (selector = 0x00 ∧ place = s.windows.graceEntry ∨ selector = 0x01 ∧ place = s.windows.openEntry ∨
        selector = 0x02 ∧ place = s.windows.aheadEntry) →
      (place = none → exec (.readWindow selector) s = .next (s.answered .empty (List.replicate 92 0x00))) ∧
      ∀ e, place = some e → ∃ r : List Octet,
        exec (.readWindow selector) s = .next (s.answered .ok r) ∧ r.length = 92 ∧
        fieldAt r 0 4 = e.index % 4294967296 ∧ octetAt r 4 = selector ∧
        (∀ (p : Plant) (base : Nat), (p = .heat ∧ base = 5 ∨ p = .cool ∧ base = 23) →
          fieldAt r base 5 = (e.own.get p).energy % 1099511627776 ∧
          fieldAt r (base + 5) 4 = (e.own.get p).metered % 4294967296 ∧
          fieldAt r (base + 9) 4 = (e.own.get p).unmetered % 4294967296 ∧
          fieldAt r (base + 13) 4 = (e.own.get p).demand % 4294967296 ∧
          (octetAt r (base + 17)).getLsbD 0 = (e.own.get p).flags.estimated ∧
          (octetAt r (base + 17)).getLsbD 1 = (e.own.get p).flags.faulted ∧
          (octetAt r (base + 17)).getLsbD 2 = (e.own.get p).flags.backup ∧
          (octetAt r (base + 17)).getLsbD 3 = (e.own.get p).flags.partialWindow ∧
          (octetAt r (base + 17)).getLsbD 4 = (e.own.get p).flags.overrange ∧ (octetAt r (base + 17)).toNat < 32) ∧
        fieldAt r 41 2 = e.reverseCount % 65536 ∧ octetAt r 43 = e.reportStatus.code ∧
        (Ascending e.contributors → (∀ a ∈ e.contributors, 1 ≤ a ∧ a ≤ 64) →
          ∀ a, 1 ≤ a → a ≤ 64 →
            (octetAt r (44 + (a - 1) / 8)).getLsbD (7 - (a - 1) % 8) = decide (a ∈ e.contributors)) ∧
        fieldAt r 52 3 = e.weightSum % 16777216 ∧
        (∀ (p : Plant) (base : Nat), (p = .heat ∧ base = 55 ∨ p = .cool ∧ base = 73) →
          fieldAt r base 6 = (e.sums.get p).demand % 281474976710656 ∧
          fieldAt r (base + 6) 6 = (e.sums.get p).energy % 281474976710656 ∧
          fieldAt r (base + 12) 6 = (e.sums.get p).common % 281474976710656) ∧
        fieldAt r 91 1 = e.estimatedContributors % 256

/-- R163, R199: READ PEER answers BAD_VALUE for an address outside 1 to 64, EMPTY for an address with no entry, and OK with
the 32 octets of the entry otherwise. It changes nothing else. -/
def Obligations.ReadPeerLayout : Prop :=
  ∀ (s : State) (address : Octet), s.portOpen →
    ((address.toNat = 0 ∨ 64 < address.toNat) →
      exec (.readPeer address) s = .next (s.answered .badValue (List.replicate 32 0x00))) ∧
    (1 ≤ address.toNat → address.toNat ≤ 64 → (∀ p ∈ s.peers, p.address ≠ address.toNat) →
      exec (.readPeer address) s = .next (s.answered .empty (List.replicate 32 0x00))) ∧
    ∀ p, Ascending (s.peers.map PeerEntry.address) → p ∈ s.peers → p.address = address.toNat → 1 ≤ p.address →
      p.address ≤ 64 → ∃ r : List Octet,
        exec (.readPeer address) s = .next (s.answered .ok r) ∧ r.length = 32 ∧
        octetAt r 0 = address ∧ octetAt r 1 = p.state.code ∧ octetAt r 2 = p.roleCode ∧
        fieldAt r 3 2 = p.weight % 65536 ∧ fieldAt r 5 2 = p.lastDigest % 65536 ∧
        octetAt r 7 = markOctet p.announced.isSome ∧ octetAt r 8 = (p.announced.map NoticeState.code).getD 0 ∧
        octetAt r 9 = markOctet p.announcedExpected.isSome ∧ fieldAt r 10 1 = p.announcedExpected.getD 0 % 256 ∧
        (p.acceptance = none → fieldAt r 11 12 = 0) ∧
        (∀ a, p.acceptance = some a →
          octetAt r 11 = 0x01 ∧ fieldAt r 12 4 = a.lastWindow % 4294967296 ∧
          (fieldAt r 16 3 : Int) = a.offset % 16777216 ∧ fieldAt r 19 4 = a.offsetIndex % 4294967296) ∧
        fieldAt r 23 1 = p.missed % 256 ∧ fieldAt r 24 2 = p.accepted % 65536 ∧ fieldAt r 26 2 = p.late % 65536 ∧
        fieldAt r 28 2 = p.duplicate % 65536 ∧ fieldAt r 30 2 = p.farAhead % 65536

/-- R21, R199: READ TOTALS answers OK with 71 octets, the two circuit meters and the converter, and changes nothing else. -/
def Obligations.ReadTotalsLayout : Prop :=
  ∀ s : State, s.portOpen → ∃ r : List Octet, exec .readTotals s = .next (s.answered .ok r) ∧ r.length = 71 ∧
    (∀ (p : Plant) (base : Nat), (p = .heat ∧ base = 0 ∨ p = .cool ∧ base = 28) →
      octetAt r base = (s.meters.get p).state.code ∧ fieldAt r (base + 1) 1 = (s.meters.get p).holdCount % 256 ∧
      fieldAt r (base + 2) 1 = (s.meters.get p).goodRun % 256 ∧
      fieldAt r (base + 3) 3 = (s.meters.get p).residue % 16777216 ∧
      fieldAt r (base + 6) 8 = (s.meters.get p).lifetimeEnergy % 2 ^ 64 ∧
      fieldAt r (base + 14) 8 = (s.meters.get p).lifetimeVolume % 2 ^ 64 ∧
      (fieldAt r (base + 22) 2 : Int) = (s.meters.get p).heldSupply % 65536 ∧
      (fieldAt r (base + 24) 2 : Int) = (s.meters.get p).heldReturn % 65536 ∧
      (octetAt r (base + 26)).getLsbD 0 = (s.meters.get p).supplyValid ∧
      (octetAt r (base + 26)).getLsbD 1 = (s.meters.get p).returnValid ∧ (octetAt r (base + 26)).toNat < 4 ∧
      fieldAt r (base + 27) 1 = (s.meters.get p).latched % 256) ∧
    octetAt r 56 = s.converter.state.code ∧ fieldAt r 57 1 = s.converter.restartCount % 256 ∧
    fieldAt r 58 1 = s.converter.backupCount % 256 ∧
    (∀ (x : Reading) (base : Nat),
      (x = s.converter.hs ∧ base = 59 ∨ x = s.converter.hr ∧ base = 62 ∨ x = s.converter.cs ∧ base = 65 ∨
        x = s.converter.cr ∧ base = 68) →
      (fieldAt r base 2 : Int) = x.value % 65536 ∧ octetAt r (base + 2) = x.status.code)

/-- R130, R150, R199: READ LINE answers OK with 41 octets, the receiver and the transmitter, and changes nothing else. -/
def Obligations.ReadLineLayout : Prop :=
  ∀ s : State, s.portOpen → ∃ r : List Octet, exec .readLine s = .next (s.answered .ok r) ∧ r.length = 41 ∧
    fieldAt r 0 3 = s.items.lineRate.baud ∧
    octetAt r 3 = markOctet (decide (s.station.supplyMode = .mains ∧
      (s.station.state ≠ .unconfigured ∨ s.transmitter.testMode ≠ .off))) ∧
    octetAt r 4 = s.receiver.parser.code ∧ fieldAt r 5 2 = s.receiver.errors.framing % 65536 ∧
    fieldAt r 7 2 = s.receiver.errors.stray % 65536 ∧ fieldAt r 9 2 = s.receiver.errors.length % 65536 ∧
    fieldAt r 11 2 = s.receiver.errors.crc % 65536 ∧ fieldAt r 13 2 = s.receiver.ignored % 65536 ∧
    fieldAt r 15 2 = s.receiver.incompatible % 65536 ∧ fieldAt r 17 2 = s.receiver.addressClashes % 65536 ∧
    fieldAt r 19 2 = s.receiver.testEchoes % 65536 ∧ octetAt r 21 = markOctet s.receiver.lastEcho.isSome ∧
    fieldAt r 22 2 = s.receiver.lastEcho.getD 0 % 65536 ∧ octetAt r 24 = s.transmitter.state.code ∧
    (s.transmitter.report = none → fieldAt r 25 2 = 0) ∧
    (∀ k, s.transmitter.report = some k →
      (∀ w, k.content = .windowReport w → octetAt r 25 = 0x01) ∧
      (∀ n, k.content = .lineTest n → octetAt r 25 = 0x03) ∧ fieldAt r 26 1 = k.attempts % 256) ∧
    (s.transmitter.notice = none → fieldAt r 27 2 = 0 ∧ octetAt r 30 = 0x00) ∧
    (∀ k, s.transmitter.notice = some k →
      octetAt r 27 = 0x02 ∧ octetAt r 28 = k.notice.announced.code ∧ fieldAt r 30 1 = k.attempts % 256) ∧
    octetAt r 29 = (s.transmitter.followOn.map NoticeState.code).getD 0 ∧
    octetAt r 31 = s.transmitter.lastFailure.code ∧ fieldAt r 32 2 = s.transmitter.framesSent % 65536 ∧
    fieldAt r 34 2 = s.transmitter.collisions % 65536 ∧ fieldAt r 36 2 = s.transmitter.giveUps % 65536 ∧
    octetAt r 38 = s.transmitter.testMode.code ∧ fieldAt r 39 2 = s.transmitter.testSequence % 65536

/-- R178, R197: READ ITEM answers OK with the stored value as four octets, the Holiday List as its count and sixteen days, EMPTY
for an unset item, and BAD_ITEM for a code that names no item. It changes nothing else. -/
def Obligations.ReadItemReturnsStoredValue : Prop :=
  ∀ s : State, s.portOpen →
    let answers (code : Nat) (status : Status) (body : List Octet) : Prop :=
      exec (.readItem (BitVec.ofNat 8 code)) s = .next (s.answered status body)
    let stored (code value : Nat) : Prop :=
      answers code .ok
        [BitVec.ofNat 8 (value / 16777216), BitVec.ofNat 8 (value / 65536), BitVec.ofNat 8 (value / 256),
          BitVec.ofNat 8 value]
    (∀ a, s.items.stationAddress = some a → stored 0x01 a) ∧
    (s.items.role = some .tenant → stored 0x02 1) ∧ (s.items.role = some .common → stored 0x02 2) ∧
    stored 0x03 s.items.expected ∧ stored 0x04 s.items.weight ∧
    stored 0x05 (match s.items.circuits with | .heat => 1 | .cool => 2 | .both => 3) ∧
    stored 0x06 s.items.pulse.heat ∧ stored 0x07 s.items.pulse.cool ∧ stored 0x08 s.items.dtCutoff ∧
    (∀ l : WindowLength, s.items.windowLength = some l → stored 0x09 l.minutes) ∧
    stored 0x0A s.items.grace ∧ stored 0x0B s.items.lineRate.baud ∧ stored 0x0C s.items.skewLimit ∧
    stored 0x0D s.calendar.epochWeekday ∧ stored 0x0E s.items.queueAlertLevel ∧
    (∀ n, n < 6 → stored (0x10 + n) (s.calendar.weekday.item n).toNat) ∧
    (∀ n, n < 6 → stored (0x18 + n) (s.calendar.weekend.item n).toNat) ∧
    stored 0x21 s.calendar.holidays.length ∧
    (∀ b, b < 4 → stored (0x28 + b) (s.items.rate.heat.get b)) ∧
    (∀ b, b < 4 → stored (0x2C + b) (s.items.rate.cool.get b)) ∧
    (s.items.stationAddress = none → answers 0x01 .empty [0, 0, 0, 0]) ∧
    (s.items.role = none → answers 0x02 .empty [0, 0, 0, 0]) ∧
    (s.items.windowLength = none → answers 0x09 .empty [0, 0, 0, 0]) ∧
    (∃ r : List Octet, answers 0x20 .ok r ∧ r.length = 33 ∧ fieldAt r 0 1 = s.calendar.holidays.length % 256 ∧
      ∀ k, k < 16 → fieldAt r (1 + 2 * k) 2 = (s.calendar.holidays[k]?).getD 0 % 65536) ∧
    (∀ code, code < 256 → code = 0 ∨ code = 0x0F ∨ code = 0x16 ∨ code = 0x17 ∨ code = 0x1E ∨ code = 0x1F ∨
        0x22 ≤ code ∧ code ≤ 0x27 ∨ 0x30 ≤ code → answers code .badItem [0, 0, 0, 0])

/-! ### Configuration items and the Tariff Calendar -/

/-- R111, R148, R176, R177, R197: WRITE ITEM. In UNCONFIGURED a numeric item outside its range is clamped and answered CLAMPED; an
enumerated item, an address or an epoch weekday outside its values is answered BAD_VALUE and unchanged; an item every
value of which is valid takes the low two octets; a code that names no item is answered BAD_ITEM. Nothing else changes, but
for a taken LINE_RATE: it drops any Line Test, leaves the transmitter IDLE, and puts the parser of a receiver that is on in
WAIT_GAP with the gap timer at 0, and whether it drops a character in progress stays open here (the model's choice is log
entry 31); that the backoff slots stand at 0 outside BACKOFF is the model's choice (log entry 17). Outside UNCONFIGURED every write is NOT_NOW and changes nothing. -/
def Obligations.WriteItemByKind : Prop :=
  (∀ (s : State) (value : BitVec 32), s.portOpen → s.station.state = .unconfigured →
     let v := value.toNat
     let answers (code : Nat) (items : Items) (calendar : Calendar) (status : Status) : Prop :=
       exec (.writeItem (BitVec.ofNat 8 code) value) s =
         .next ({ s with items := items, calendar := calendar }.answered status [])
     let clamped (code low high : Nat) (store : Nat → Items) : Prop :=
       (v < low → answers code (store low) s.calendar .clamped) ∧
       (low ≤ v → v ≤ high → answers code (store v) s.calendar .ok) ∧
       (high < v → answers code (store high) s.calendar .clamped)
     let refused (code : Nat) : Prop := answers code s.items s.calendar .badValue
     clamped 0x03 1 64 (fun n => { s.items with expected := n }) ∧
     clamped 0x06 1 10000 (fun n => { s.items with pulse := ⟨n, s.items.pulse.cool⟩ }) ∧
     clamped 0x07 1 10000 (fun n => { s.items with pulse := ⟨s.items.pulse.heat, n⟩ }) ∧
     clamped 0x08 0 200 (fun n => { s.items with dtCutoff := n }) ∧
     clamped 0x0A 30 900 (fun n => { s.items with grace := n }) ∧
     clamped 0x0C 2 60 (fun n => { s.items with skewLimit := n }) ∧
     clamped 0x0E 0 7 (fun n => { s.items with queueAlertLevel := n }) ∧
     (if 1 ≤ v ∧ v ≤ 64 then answers 0x01 { s.items with stationAddress := some v } s.calendar .ok else refused 0x01) ∧
     (if v = 1 then answers 0x02 { s.items with role := some .tenant } s.calendar .ok
       else if v = 2 then answers 0x02 { s.items with role := some .common } s.calendar .ok else refused 0x02) ∧
     (if v = 1 then answers 0x05 { s.items with circuits := .heat } s.calendar .ok
       else if v = 2 then answers 0x05 { s.items with circuits := .cool } s.calendar .ok
       else if v = 3 then answers 0x05 { s.items with circuits := .both } s.calendar .ok else refused 0x05) ∧
     (if v = 5 then answers 0x09 { s.items with windowLength := some .min5 } s.calendar .ok
       else if v = 10 then answers 0x09 { s.items with windowLength := some .min10 } s.calendar .ok
       else if v = 15 then answers 0x09 { s.items with windowLength := some .min15 } s.calendar .ok
       else if v = 30 then answers 0x09 { s.items with windowLength := some .min30 } s.calendar .ok
       else refused 0x09) ∧
     (if v ≤ 6 then answers 0x0D s.items { s.calendar with epochWeekday := v } .ok else refused 0x0D) ∧
     answers 0x04 { s.items with weight := v % 65536 } s.calendar .ok ∧
     (∀ n, n < 6 → ∃ m : SlotMap, answers (0x10 + n) s.items { s.calendar with weekday := m } .ok ∧
       (m.item n).toNat = v % 65536 ∧ ∀ k, k < 6 → k ≠ n → m.item k = s.calendar.weekday.item k) ∧
     (∀ n, n < 6 → ∃ m : SlotMap, answers (0x18 + n) s.items { s.calendar with weekend := m } .ok ∧
       (m.item n).toNat = v % 65536 ∧ ∀ k, k < 6 → k ≠ n → m.item k = s.calendar.weekend.item k) ∧
     (∀ b, b < 4 → ∃ x : PerBand Nat,
       answers (0x28 + b) { s.items with rate := ⟨x, s.items.rate.cool⟩ } s.calendar .ok ∧ x.get b = v % 65536 ∧
       ∀ k, k < 4 → k ≠ b → x.get k = s.items.rate.heat.get k) ∧
     (∀ b, b < 4 → ∃ x : PerBand Nat,
       answers (0x2C + b) { s.items with rate := ⟨s.items.rate.heat, x⟩ } s.calendar .ok ∧ x.get b = v % 65536 ∧
       ∀ k, k < 4 → k ≠ b → x.get k = s.items.rate.cool.get k) ∧
     (∀ code, code < 256 → code = 0 ∨ code = 0x0F ∨ code = 0x16 ∨ code = 0x17 ∨ code = 0x1E ∨ code = 0x1F ∨
         0x22 ≤ code ∧ code ≤ 0x27 ∨ 0x30 ≤ code → answers code s.items s.calendar .badItem)) ∧
  (∀ (s : State) (value : BitVec 32), s.portOpen → s.station.state = .unconfigured →
     let taken (rate : LineRate) : Prop := ∃ inProgress : Bool,
       exec (.writeItem 0x0B value) s = .next
         ({ s with
             items := { s.items with lineRate := rate }
             transmitter :=
               { s.transmitter with
                 state := .idle, report := none, current := none, backoffSlots := 0, stuckTimer := 0
                 readBack := .matched 0 }
             receiver :=
               { s.receiver with
                 parser :=
                   if s.station.supplyMode = SupplyMode.mains ∧ s.transmitter.testMode ≠ LineTestMode.off then .waitGap else .off
                 gapTimer := 0, frame := [], charInProgress := inProgress } }.answered .ok [])
     if value.toNat = 9600 then taken .b9600
     else if value.toNat = 19200 then taken .b19200
     else if value.toNat = 38400 then taken .b38400
     else if value.toNat = 76800 then taken .b76800
     else exec (.writeItem 0x0B value) s = .next (s.answered .badValue [])) ∧
  ∀ (s : State) (code : Octet) (value : BitVec 32), s.portOpen → s.station.state ≠ .unconfigured →
    exec (.writeItem code value) s = .next (s.answered .notNow [])

/-- R37: HOLIDAY_ADD in UNCONFIGURED: a value above 65535 is BAD_VALUE; a day already in the list is OK and changes nothing;
a new day enters a list of fewer than 16, which stays ascending; a new day for a list of 16 is BAD_VALUE. HOLIDAY_CLEAR
empties the list whatever its value. -/
def Obligations.HolidayListWrites : Prop :=
  ∀ (s : State) (value : BitVec 32), s.portOpen → s.station.state = .unconfigured →
    let v := value.toNat
    (65535 < v → exec (.holidayAdd value) s = .next (s.answered .badValue [])) ∧
    (v ≤ 65535 → v ∈ s.calendar.holidays → exec (.holidayAdd value) s = .next (s.answered .ok [])) ∧
    (v ≤ 65535 → v ∉ s.calendar.holidays → 16 ≤ s.calendar.holidays.length →
      exec (.holidayAdd value) s = .next (s.answered .badValue [])) ∧
    (v ≤ 65535 → v ∉ s.calendar.holidays → s.calendar.holidays.length < 16 → ∃ days : List Nat,
      exec (.holidayAdd value) s = .next ({ s with calendar := { s.calendar with holidays := days } }.answered .ok []) ∧
      (∀ d, d ∈ days ↔ d = v ∨ d ∈ s.calendar.holidays) ∧ days.length = s.calendar.holidays.length + 1 ∧
      (Ascending s.calendar.holidays → Ascending days)) ∧
    exec (.holidayClear value) s = .next ({ s with calendar := { s.calendar with holidays := [] } }.answered .ok [])

/-- R31, R32, R36, R38: the band of a window: the day's type from the epoch weekday and the Holiday List, the slot of thirty
minutes, and two bits of the slot map's item, slot 8n in the most significant bits of item n. The global index of a window
gives back its day and its window of the day, and the difference of two indices is the one number of their residue class
modulo M that lies in the signed range. -/
def Obligations.IndicesAndBandsOfWindows : Prop :=
  (∀ (c : Calendar) (l : WindowLength) (x : Nat),
     let day := x / l.perDay
     let slot := x % l.perDay * l.minutes / 30
     let weekend := (c.epochWeekday + day) % 7 = 5 ∨ (c.epochWeekday + day) % 7 = 6 ∨ day ∈ c.holidays
     slot < 48 ∧
     (weekend → bandOf c l x = ((c.weekend.item (slot / 8)).toNat >>> (14 - 2 * (slot % 8))) % 4) ∧
     (¬weekend → bandOf c l x = ((c.weekday.item (slot / 8)).toNat >>> (14 - 2 * (slot % 8))) % 4)) ∧
  (∀ l : WindowLength,
     (∀ day window, day < 65536 → window < l.perDay →
       globalIndex l day window < 65536 * l.perDay ∧ globalIndex l day window / l.perDay = day ∧
       globalIndex l day window % l.perDay = window) ∧
     (∀ x y : Nat, -(65536 * l.perDay / 2 : Int) ≤ indexDifference l x y ∧
       indexDifference l x y < (65536 * l.perDay / 2 : Int) ∧
       (indexDifference l x y - ((x : Int) - y)) % (65536 * l.perDay : Int) = 0) ∧
     (∀ w k : Nat, indexAfter l w k = (w + k) % (65536 * l.perDay)))

/-! ### The Timebase -/

/-- R23: SET CLOCK in UNCONFIGURED: a second-of-day above 86399 is BAD_VALUE and changes nothing; any other is taken, sets day
and second-of-day, starts the given second afresh and makes the clock VALID. In every other state it is NOT_NOW and
changes nothing. -/
def Obligations.SetClock : Prop :=
  ∀ (s : State) (day : BitVec 16) (second : BitVec 24), s.portOpen →
    (s.station.state ≠ .unconfigured → exec (.setClock day second) s = .next (s.answered .notNow [])) ∧
    (s.station.state = .unconfigured → 86399 < second.toNat →
      exec (.setClock day second) s = .next (s.answered .badValue [])) ∧
    (s.station.state = .unconfigured → second.toNat ≤ 86399 →
      exec (.setClock day second) s = .next
        ({ s with
            timebase :=
              { s.timebase with
                clockValid := true, day := day.toNat, secondOfDay := second.toNat, secondFraction := 0 } }.answered
          .ok []))

/-- R33, R34: TRIM CLOCK in a commissioned state: the argument clamped to -120..+120 is added to slew remaining, and the sum
clamped to -120..+120 is stored; CLAMPED if a clamp changed a value; the slew count returns to 0 where the new slew
remaining is 0 or of the opposite sign. A slew step that is due is taken first, which is the model's choice (log entry 4).
A trim of 0 changes nothing, and UNCONFIGURED refuses. A slew step that is due moves slew remaining one second toward 0,
returns the slew count to 0 and fixes the length of the second that has begun by the new slew remaining (R25); where none is
due SLEW_STEP is no occurrence (log entry 2). -/
def Obligations.TrimClockAndSlewStep : Prop :=
  (∀ (s : State) (seconds : BitVec 8), s.portOpen →
     let due := s.timebase.due.slewStep
     let slew : Int :=
       if due = false then s.timebase.slewRemaining
       else if 0 < s.timebase.slewRemaining then s.timebase.slewRemaining - 1
       else if s.timebase.slewRemaining < 0 then s.timebase.slewRemaining + 1 else 0
     let argument := max (-120) (min 120 seconds.toInt)
     let sum := max (-120) (min 120 (slew + argument))
     (s.station.state = .unconfigured → exec (.trimClock seconds) s = .next (s.answered .notNow [])) ∧
     (s.station.state ≠ .unconfigured → seconds.toInt = 0 → exec (.trimClock seconds) s = .next (s.answered .ok [])) ∧
     (s.station.state ≠ .unconfigured → seconds.toInt ≠ 0 →
       exec (.trimClock seconds) s = .next
         ({ s with
             timebase :=
               { s.timebase with
                 slewRemaining := sum
                 slewCount :=
                   if due = true ∨ sum = 0 ∨ (0 < sum ∧ slew < 0) ∨ (sum < 0 ∧ 0 < slew) then 0 else s.timebase.slewCount
                 secondLength :=
                   if due = false then s.timebase.secondLength
                   else if slew = 0 then .nominal else if 0 < slew then .shortened else .lengthened
                 due := { s.timebase.due with slewStep := false } } }.answered
           (if argument = seconds.toInt ∧ sum = slew + argument then .ok else .clamped) []))) ∧
  (∀ s : State, s.rstnHigh = true →
     (s.timebase.due.slewStep = false → exec .slewStep s = .next s) ∧
     (s.timebase.due.slewStep = true → ∃ slew : Int,
       exec .slewStep s = .next
         { s with
           timebase :=
             { s.timebase with
               slewRemaining := slew, slewCount := 0
               secondLength := if slew = 0 then .nominal else if 0 < slew then .shortened else .lengthened
               due := { s.timebase.due with slewStep := false } } } ∧
       (0 < s.timebase.slewRemaining → slew = s.timebase.slewRemaining - 1) ∧
       (s.timebase.slewRemaining < 0 → slew = s.timebase.slewRemaining + 1) ∧
       (s.timebase.slewRemaining = 0 → slew = 0)))

/-- R24: a counted second ends before COMMISSION: second-of-day rises by one, midnight raises the day number modulo 65536, and
no event of R27 to R30 is issued. While the clock is INVALID no second ends. That a second ends only with no event
outstanding is the model's choice (log entry 2). -/
def Obligations.SecondEndBeforeCommission : Prop :=
  ∀ s : State, s.rstnHigh = true →
    (s.timebase.clockValid = false → exec .countedSecondEnd s = .next s) ∧
    (s.timebase.clockValid = true → s.outstanding = false → s.timebase.boundaryOn = false →
      s.timebase.slewRemaining = 0 → s.timebase.secondLength = .nominal →
      exec .countedSecondEnd s = .next
        { s with
          timebase :=
            { s.timebase with
              secondFraction := 0
              secondOfDay := if s.timebase.secondOfDay < 86399 then s.timebase.secondOfDay + 1 else 0
              day := if s.timebase.secondOfDay < 86399 then s.timebase.day else (s.timebase.day + 1) % 65536 } })

/-- R24, R25, R27 to R30, R34: a counted second ends with boundary generation ON: the time of day, the length of the next
second, the slew count, the cycle phase and the window counters, and exactly the events issued. All counters move at the
second's end (the model's choice of moment, log entry 3), once the events of the second before have been taken (log
entry 2). -/
def Obligations.SecondEndAfterCommission : Prop :=
  ∀ s : State, s.rstnHigh = true → s.timebase.clockValid = true → s.outstanding = false → s.timebase.boundaryOn = true →
    let b := s.timebase
    let seconds := s.items.length.minutes * 60
    let windows := 1440 / s.items.length.minutes
    let slewed := b.secondLength = .shortened ∧ 0 < b.slewRemaining ∨ b.secondLength = .lengthened ∧ b.slewRemaining < 0
    exec .countedSecondEnd s = .next
      { s with
        timebase :=
          { clockValid := true
            secondOfDay := if b.secondOfDay < 86399 then b.secondOfDay + 1 else 0
            day := if b.secondOfDay < 86399 then b.day else (b.day + 1) % 65536
            secondFraction := 0
            secondLength :=
              if b.slewRemaining = 0 then .nominal else if 0 < b.slewRemaining then .shortened else .lengthened
            cyclePhase := if b.cyclePhase = 0 then 1 else 0
            secondsInWindow := if b.secondsInWindow + 1 < seconds then b.secondsInWindow + 1 else 0
            windowInDay :=
              if b.secondsInWindow + 1 < seconds then b.windowInDay
              else if b.windowInDay + 1 < windows then b.windowInDay + 1 else 0
            graceArmed := b.graceArmed
            slewRemaining := b.slewRemaining
            slewCount := if slewed ∧ b.slewCount < 7 then b.slewCount + 1 else b.slewCount
            boundaryOn := true
            due :=
              { slewStep := decide (slewed ∧ 7 ≤ b.slewCount)
                cycleEvent := decide (b.cyclePhase ≠ 0)
                windowBoundary := decide (seconds ≤ b.secondsInWindow + 1)
                dayBoundary := decide (seconds ≤ b.secondsInWindow + 1 ∧ windows ≤ b.windowInDay + 1)
                graceExpiry :=
                  decide (b.secondsInWindow + 1 < seconds ∧ b.graceArmed = true ∧
                    b.secondsInWindow + 1 = s.items.grace) } } }


/-! ### Metering -/

/-- R3, R6, R7, R9: a flow pulse raises the pulse counter of a present circuit by 1, holding it at 255; an ABSENT circuit does not
count. RESET CONVERTER on a commissioned station puts the converter in RESTARTING with restart count 2 and changes nothing
else; in UNCONFIGURED it is NOT_NOW. A converter that has counted its restart down to 0 returns to RUNNING at
CONVERTER_RESTART_END, which is no occurrence anywhere else (log entry 21). -/
def Obligations.FlowPulsesAndConverterRestart : Prop :=
  (∀ s : State, s.rstnHigh = true →
     let counted (m : CircuitMeter) : CircuitMeter :=
       if m.state = .absent then m
       else { m with pulseCounter := if m.pulseCounter < 255 then m.pulseCounter + 1 else 255 }
     exec (.flowPulse .heat) s = .next { s with meters := { s.meters with heat := counted s.meters.heat } } ∧
     exec (.flowPulse .cool) s = .next { s with meters := { s.meters with cool := counted s.meters.cool } }) ∧
  (∀ s : State,
     (s.portOpen → s.station.state ≠ .unconfigured →
       exec .resetConverter s = .next
         ({ s with converter := { s.converter with state := .restarting, restartCount := 2 } }.answered .ok [])) ∧
     (s.portOpen → s.station.state = .unconfigured → exec .resetConverter s = .next (s.answered .notNow [])) ∧
     (s.rstnHigh = true → s.converter.state = .restarting → s.converter.restartCount = 0 →
       exec .converterRestartEnd s = .next { s with converter := { s.converter with state := .running } }) ∧
     (s.rstnHigh = true → ¬(s.converter.state = .restarting ∧ s.converter.restartCount = 0) →
       exec .converterRestartEnd s = .next s))

/-- R5, R6, R8, R173: a cycle event that has been issued is a backup hold, a restart hold or a conversion event. It counts the
backup, restart and recovery counts, delivers the four readings at a conversion event only, and sets their status to NONE
at a restart hold (their values are then free, log entry 10). The backup count runs 0, 7, 6 down to 0 (deduced from the
worked example after R175, log entry 11). What it may change besides is the meters, the OPEN entry and two
flags of the Cause Unit, FLOW_OVERRANGE and SENSOR_FAULT. Two clauses are the model's choice: a cycle event acts where its
mark has been issued and is no occurrence elsewhere (log entry 2); and the restart and the recovery that it counts down to 0
do not end with it, RESTARTING and RECOVERING standing with count 0, with no SUPPLY_CHANGE, until CONVERTER_RESTART_END and
RECOVERY_END make the changes that R6 and R173 give at this cycle event (log entry 21). -/
def Obligations.CycleEventConverter : Prop :=
  (∀ v : BitVec 16,
    sensorReading (.converted v) = ⟨v.toInt, if -2000 ≤ v.toInt ∧ v.toInt ≤ 13000 then .valid else .range⟩ ∧
    sensorReading (.openCircuit v) = ⟨v.toInt, .openCircuit⟩ ∧
    sensorReading (.shortCircuit v) = ⟨v.toInt, .shortCircuit⟩) ∧
  ∀ (s : State) (hs hr cs cr : Sensor), s.rstnHigh = true →
    (s.timebase.due.cycleEvent = false → exec (.cycleEvent hs hr cs cr) s = .next s) ∧
    (s.timebase.due.cycleEvent = true → s.converter.backupCount ≤ 7 →
      let backup :=
        if s.station.supplyMode = .backup then
          if s.converter.backupCount = 0 then 7 else s.converter.backupCount - 1
        else s.converter.backupCount
      let backupHold := s.station.supplyMode = .backup ∧ backup ≠ 0
      let restarting := s.converter.state = .restarting
      ∃ (x : Converter) (m : PerPlant CircuitMeter) (e : Option WindowEntry) (u : CauseUnit) (drawn : Nat),
        exec (.cycleEvent hs hr cs cr) s = .next
          { s with
            timebase := { s.timebase with due := { s.timebase.due with cycleEvent := false } }
            converter := x, meters := m, windows := { s.windows with openEntry := e }, causes := u, freeCount := drawn
            station :=
              { s.station with
                recoveryCount :=
                  if s.station.supplyMode = .recovering then s.station.recoveryCount - 1
                  else s.station.recoveryCount } } ∧
        x.state = s.converter.state ∧ x.backupCount = backup ∧
        x.restartCount = (if restarting then s.converter.restartCount - 1 else s.converter.restartCount) ∧
        (backupHold → x.hs = s.converter.hs ∧ x.hr = s.converter.hr ∧ x.cs = s.converter.cs ∧ x.cr = s.converter.cr) ∧
        (¬backupHold → restarting →
          x.hs.status = .noReading ∧ x.hr.status = .noReading ∧ x.cs.status = .noReading ∧ x.cr.status = .noReading) ∧
        (¬backupHold → ¬restarting →
          x.hs = sensorReading hs ∧ x.hr = sensorReading hr ∧ x.cs = sensorReading cs ∧ x.cr = sensorReading cr) ∧
        (∀ c, c ≠ .flowOverrange → c ≠ .sensorFault → flagOf u.pending c = flagOf s.causes.pending c) ∧
        u.enables = s.causes.enables ∧ u.master = s.causes.master ∧ u.mode = s.causes.mode)

/-- R4, R9 to R14: what a cycle event does to a circuit's state. Every present circuit latches and restarts its pulse counter;
at a conversion event it stores each valid reading and makes the transition of R11 to R13, and at a hold it keeps its
state and counts; SENSOR_FAULT is raised on an entry to FAULT and at no other event. Which events in BACKUP are conversion
events rests on the direction of the backup count (log entry 11), that the event acts on its mark on log entry 2, and that a
converter which has counted its restart down to 0 holds until its own row on log entry 21: the model's choices. -/
def Obligations.CycleEventCircuitStates : Prop :=
  ∀ (s : State) (hs hr cs cr : Sensor), s.rstnHigh = true → s.timebase.due.cycleEvent = true →
    s.converter.backupCount ≤ 7 →
    let conversion := ¬(s.station.supplyMode = .backup ∧ s.converter.backupCount ≠ 1) ∧ s.converter.state = .running
    let entersFault (m m' : CircuitMeter) : Prop := m.state ≠ .absent ∧ m.state ≠ .fault ∧ m'.state = .fault
    ∃ t, exec (.cycleEvent hs hr cs cr) s = .next t ∧
      (flagOf t.causes.pending .sensorFault = true ↔
        flagOf s.causes.pending .sensorFault = true ∨ entersFault s.meters.heat t.meters.heat ∨
          entersFault s.meters.cool t.meters.cool) ∧
      ∀ (p : Plant) (supply ret : Reading),
        (p = .heat ∧ supply = sensorReading hs ∧ ret = sensorReading hr ∨
          p = .cool ∧ supply = sensorReading cs ∧ ret = sensorReading cr) →
        let m := s.meters.get p
        let m' := t.meters.get p
        let good := supply.status = .valid ∧ ret.status = .valid
        (m.state = .absent → m' = m) ∧
        (m.state ≠ .absent → m'.latched = m.pulseCounter ∧ m'.pulseCounter = 0) ∧
        (m.state ≠ .absent → ¬conversion →
          m'.state = m.state ∧ m'.holdCount = m.holdCount ∧ m'.goodRun = m.goodRun ∧ m'.heldSupply = m.heldSupply ∧
          m'.heldReturn = m.heldReturn ∧ m'.supplyValid = m.supplyValid ∧ m'.returnValid = m.returnValid) ∧
        (m.state ≠ .absent → conversion →
          m'.heldSupply = (if supply.status = .valid then supply.value else m.heldSupply) ∧
          m'.heldReturn = (if ret.status = .valid then ret.value else m.heldReturn) ∧
          (m'.supplyValid = true ↔ m.supplyValid = true ∨ supply.status = .valid) ∧
          (m'.returnValid = true ↔ m.returnValid = true ∨ ret.status = .valid)) ∧
        (m.state = .normal → conversion → good → m'.state = .normal ∧ m'.holdCount = m.holdCount) ∧
        (m.state = .normal → conversion → ¬good → m'.state = .holding ∧ m'.holdCount = 1) ∧
        (m.state = .holding → conversion → good → m'.state = .normal ∧ m'.holdCount = 0) ∧
        (m.state = .holding → conversion → ¬good → m.holdCount < 7 →
          m'.state = .holding ∧ m'.holdCount = m.holdCount + 1) ∧
        (m.state = .holding → conversion → ¬good → 7 ≤ m.holdCount →
          m'.state = .fault ∧ m'.holdCount = 8 ∧ m'.goodRun = 0) ∧
        (m.state = .fault → conversion → good → m.goodRun = 0 →
          m'.state = .fault ∧ m'.holdCount = m.holdCount ∧ m'.goodRun = 1) ∧
        (m.state = .fault → conversion → good → m.goodRun ≠ 0 →
          m'.state = .normal ∧ m'.holdCount = 0 ∧ m'.goodRun = 0) ∧
        (m.state = .fault → conversion → ¬good →
          m'.state = .fault ∧ m'.holdCount = m.holdCount ∧ m'.goodRun = 0)

/-- R15 to R21: the energy of a cycle. With V the latched pulses times the pulse weight, a circuit that is NORMAL or HOLDING
after its transition with both ever-valid marks set and V above 0 forms N = V × ΔT × 4186 + residue, gains
floor(N / 100000) joules and keeps N mod 100000; any other cycle gains none and keeps its residue. The OPEN entry takes the
energy, the volume as metered or unmetered, the flags and the reverse count of each plant, and nothing else of it
changes; the lifetime registers take energy and volume modulo 2^64; a latched count of 255 raises FLOW_OVERRANGE. Which
events in BACKUP are holds rests on the direction of the backup count (log entry 11), that the event acts on its mark on log
entry 2, and that a converter which has counted its restart down to 0 holds until its own row on log entry 21: the model's
choices. -/
def Obligations.CycleEventEnergy : Prop :=
  ∀ (s : State) (hs hr cs cr : Sensor) (e : WindowEntry), s.rstnHigh = true → s.timebase.due.cycleEvent = true →
    MeteringOk s → s.windows.openEntry = some e →
    let backupHold := s.station.supplyMode = .backup ∧ s.converter.backupCount ≠ 1
    let restarting := s.converter.state = .restarting
    ∃ (t : State) (e' : WindowEntry), exec (.cycleEvent hs hr cs cr) s = .next t ∧ t.windows.openEntry = some e' ∧
      let volume (p : Plant) : Nat := (s.meters.get p).pulseCounter * s.items.pulse.get p
      let present (p : Plant) : Prop := (s.meters.get p).state ≠ .absent
      let computes (p : Plant) : Prop :=
        ((t.meters.get p).state = .normal ∨ (t.meters.get p).state = .holding) ∧
          (t.meters.get p).supplyValid = true ∧ (t.meters.get p).returnValid = true
      let raw (p : Plant) : Int :=
        match p with
        | .heat => t.meters.heat.heldSupply - t.meters.heat.heldReturn
        | .cool => t.meters.cool.heldReturn - t.meters.cool.heldSupply
      let difference (p : Plant) : Nat :=
        if raw p < s.items.dtCutoff then 0 else if 10000 < raw p then 10000 else (raw p).toNat
      let units (p : Plant) : Nat := volume p * difference p * 4186 + (s.meters.get p).residue
      let reverse (p : Plant) (k : Nat) : Prop :=
        (present p ∧ computes p ∧ 0 < volume p ∧ raw p < 0 → k = 1) ∧
          (¬(present p ∧ computes p ∧ 0 < volume p ∧ raw p < 0) → k = 0)
      (∃ h c : Nat, reverse .heat h ∧ reverse .cool c ∧ e' = { e with own := e'.own, reverseCount := e.reverseCount + h + c }) ∧
      (flagOf t.causes.pending .flowOverrange = true ↔
        flagOf s.causes.pending .flowOverrange = true ∨
          ∃ p, present p ∧ (s.meters.get p).pulseCounter = 255) ∧
      ∀ p : Plant,
        let o := e.own.get p
        let o' := e'.own.get p
        let m := s.meters.get p
        let m' := t.meters.get p
        o'.demand = o.demand ∧ o'.flags.partialWindow = o.flags.partialWindow ∧
        (¬present p → o' = o ∧ m' = m) ∧
        (present p → computes p → 0 < volume p →
          o'.energy = o.energy + units p / 100000 ∧ m'.residue = units p % 100000 ∧
          m'.lifetimeEnergy = (m.lifetimeEnergy + units p / 100000) % 2 ^ 64) ∧
        (present p → ¬(computes p ∧ 0 < volume p) →
          o'.energy = o.energy ∧ m'.residue = m.residue ∧ m'.lifetimeEnergy = m.lifetimeEnergy) ∧
        (present p → m'.lifetimeVolume = (m.lifetimeVolume + volume p) % 2 ^ 64) ∧
        (present p → computes p → o'.metered = o.metered + volume p ∧ o'.unmetered = o.unmetered) ∧
        (present p → ¬computes p → o'.metered = o.metered ∧ o'.unmetered = o.unmetered + volume p) ∧
        (present p →
          (o'.flags.overrange = true ↔ o.flags.overrange = true ∨ m.pulseCounter = 255) ∧
          (o'.flags.backup = true ↔ o.flags.backup = true ∨ backupHold) ∧
          (o'.flags.faulted = true ↔ o.flags.faulted = true ∨ m'.state = .fault) ∧
          (o'.flags.estimated = true ↔
            o.flags.estimated = true ∨ m.pulseCounter = 255 ∨
              (¬backupHold ∧ ¬restarting ∧ m'.state = .holding) ∨
              (¬backupHold ∧ restarting ∧ (m'.state = .normal ∨ m'.state = .holding)) ∨
              (computes p ∧ 0 < volume p ∧ 10000 < raw p)))


/-! ### Windows, closes, Period Contexts and Settlement Records -/

/-- R28, R46 to R51, R137: a window boundary that has been issued freezes the OPEN entry's demands, floor(own energy / T), moves OPEN to
GRACE and AHEAD to OPEN, and creates AHEAD fresh one index on. The closing entry is PENDING, with its Window Report in
the report slot, in JOINING, RUNNING and QUIETING on mains supply, and SUPPRESSED otherwise, when the transmitter and the
causes stay as they are. Outside a transmission the report is the current frame, in WAIT_IDLE, or on an idle line at once in
BACKOFF with k = (5 × A + s) mod 8 slots. A JOINING station becomes RUNNING, and grace is ARMED. The boundary's mark, taken
after the cycle event of its second (log entry 2), and the arming of grace in this row (log entry 3) are the model's choices. -/
def Obligations.WindowBoundaryMoves : Prop :=
  ∀ (s : State) (e : WindowEntry), s.rstnHigh = true → s.timebase.due.windowBoundary = true →
    s.timebase.due.cycleEvent = false → s.windows.openEntry = some e →
    let seconds := s.items.length.minutes * 60
    let windows := 1440 / s.items.length.minutes
    let seed := if s.timebase.clockValid then s.timebase.secondOfDay % 256 else 0
    let reports := (s.station.state = .joining ∨ s.station.state = .running ∨ s.station.state = .quieting) ∧
      s.station.supplyMode = .mains
    let part (p : Plant) : OwnPart := { (e.own.get p) with demand := (e.own.get p).energy / seconds }
    let quality (p : Plant) : Quality :=
      { estimated := (e.own.get p).flags.estimated, faulted := (e.own.get p).flags.faulted
        backup := (e.own.get p).flags.backup, partialWindow := (e.own.get p).flags.partialWindow }
    let fresh (index : Nat) : WindowEntry :=
      { index := index
        own := ⟨⟨0, 0, 0, 0, ⟨false, false, false, false, false⟩⟩, ⟨0, 0, 0, 0, ⟨false, false, false, false, false⟩⟩⟩
        reverseCount := 0, reportStatus := .undecided, contributors := [], weightSum := 0
        sums := ⟨⟨0, 0, 0⟩, ⟨0, 0, 0⟩⟩, estimatedContributors := 0 }
    ∃ (x : Transmitter) (u : CauseUnit) (drawn : Nat),
      exec .windowBoundary s = .next
        { s with
          timebase := { s.timebase with graceArmed := true, due := { s.timebase.due with windowBoundary := false } }
          station := { s.station with state := if s.station.state = .joining then .running else s.station.state }
          windows :=
            { s.windows with
              graceEntry :=
                some { e with own := ⟨part .heat, part .cool⟩
                              reportStatus := if reports then .pending else .suppressed }
              openEntry := s.windows.aheadEntry
              aheadEntry := s.windows.aheadEntry.map fun a => fresh ((a.index + 1) % (65536 * windows)) }
          transmitter := x, causes := u, freeCount := drawn } ∧
      (¬reports → x = s.transmitter ∧ u = s.causes) ∧
      (reports → ∃ k, x.report = some k ∧ k.attempts = 0 ∧ k.expired = false ∧ k.seed = seed ∧
        ∃ second : Nat, k.content = .windowReport
          { sender := s.items.stationAddress.getD 0
            roleCode := match s.items.role with | some .tenant => 0x01 | some .common => 0x02 | none => 0x00
            day := e.index / windows, windowInDay := e.index % windows
            demand := ⟨e.own.heat.energy / seconds, e.own.cool.energy / seconds⟩
            energy := ⟨e.own.heat.energy, e.own.cool.energy⟩
            weight := if s.items.role = some .common then 0 else s.items.weight
            digest := s.station.digest, second := second, quality := ⟨quality .heat, quality .cool⟩ }) ∧
      (reports → s.transmitter.state = .sending → x.state = .sending ∧ x.current = s.transmitter.current) ∧
      (reports → s.transmitter.state ≠ .sending → x.current = some .report ∧
        (s.receiver.gapTimer ≠ 4 → x.state = .waitIdle) ∧
        (s.receiver.gapTimer = 4 → x.state = .backoff ∧ x.backoffSlots = (5 * s.items.stationAddress.getD 0 + seed) % 8)) ∧
      x.framesSent = s.transmitter.framesSent ∧ x.collisions = s.transmitter.collisions ∧
      x.giveUps = s.transmitter.giveUps ∧ x.testMode = s.transmitter.testMode ∧
      x.testSequence = s.transmitter.testSequence ∧
      (∀ c, c ≠ .txFailure → flagOf u.pending c = flagOf s.causes.pending c) ∧ u.enables = s.causes.enables ∧
      u.master = s.causes.master ∧ u.mode = s.causes.mode

/-- R133 to R137: at a window boundary a RUNNING station on mains supply requests a RUNNING notice where the index of the
window that begins agrees with STATION_ADDRESS modulo 16: it enters the notice slot, or is recorded as the follow-on while
a notice is in transmission. The boundary's Window Report goes first: outside a transmission it is the current frame, in
WAIT_IDLE, or on an idle line in BACKOFF with its own count of slots. No notice is requested at any other boundary, but for
one taken in JOINING, whose order with the change to RUNNING is free (log entry 9). The boundary's mark, taken after the cycle
event of its second, is the model's choice (log entry 2). -/
def Obligations.PeriodicNoticeAtBoundary : Prop :=
  ∀ (s : State) (e a : WindowEntry), s.rstnHigh = true → s.timebase.due.windowBoundary = true →
    s.timebase.due.cycleEvent = false → s.windows.openEntry = some e → s.windows.aheadEntry = some a →
    let requested := s.station.state = .running ∧ s.station.supplyMode = .mains ∧
      a.index % 16 = s.items.stationAddress.getD 0 % 16
    let sending := s.transmitter.state = .sending ∧ s.transmitter.current = some .notice
    ∃ t, exec .windowBoundary s = .next t ∧
      (requested → ¬sending → ∃ n, t.transmitter.notice = some n ∧ t.transmitter.followOn = s.transmitter.followOn ∧
        n.attempts = 0 ∧ n.seed = (if s.timebase.clockValid then s.timebase.secondOfDay % 256 else 0) ∧
        n.notice.sender = s.items.stationAddress.getD 0 ∧ n.notice.announced = .running ∧
        n.notice.weight = (if s.items.role = some .common then 0 else s.items.weight) ∧
        n.notice.digest = s.station.digest ∧ n.notice.expected = s.items.expected) ∧
      (requested → sending →
        t.transmitter.notice = s.transmitter.notice ∧ t.transmitter.followOn = some .running) ∧
      (requested → s.transmitter.state ≠ .sending → t.transmitter.current = some .report ∧
        (s.receiver.gapTimer ≠ 4 → t.transmitter.state = .waitIdle) ∧
        (s.receiver.gapTimer = 4 → t.transmitter.state = .backoff ∧
          t.transmitter.backoffSlots =
            (5 * s.items.stationAddress.getD 0 +
              if s.timebase.clockValid then s.timebase.secondOfDay % 256 else 0) % 8)) ∧
      (¬requested → s.station.state ≠ .joining →
        t.transmitter.notice = s.transmitter.notice ∧ t.transmitter.followOn = s.transmitter.followOn)

/-- R29, R91: at a day boundary CURRENT becomes CLOSING with the receive error counters as its snapshot, and a fresh CURRENT is
created for the Timebase's day number. Nothing else changes: that the day number moved with the counted second's end and not
here is the model's choice (log entry 3), and so is the mark by which a day boundary is issued, without which it is no
occurrence (log entry 2). -/
def Obligations.DayBoundaryRollsContexts : Prop :=
  ∀ s : State, s.rstnHigh = true →
    (s.timebase.due.dayBoundary = false → exec .dayBoundary s = .next s) ∧
    (s.timebase.due.dayBoundary = true → ∀ c, s.contexts.current = some c →
      exec .dayBoundary s = .next
        { s with
          timebase := { s.timebase with due := { s.timebase.due with dayBoundary := false } }
          contexts :=
            { closing := some { c with rxSnapshot := some s.receiver.errors }
              current :=
                some
                  { day := s.timebase.day, partialDay := false, saturated := false, rxSnapshot := none
                    figures :=
                      { energy := ⟨⟨0, 0, 0, 0⟩, ⟨0, 0, 0, 0⟩⟩, commonShare := ⟨⟨0, 0, 0, 0⟩, ⟨0, 0, 0, 0⟩⟩
                        complexEnergy := ⟨0, 0⟩, peak := ⟨none, none⟩, unmetered := 0, reverseCount := 0
                        counts := ⟨0, 0, 0, 0, 0, 0, 0, 0, 0⟩, dispositions := ⟨0, 0, 0⟩, addressClashes := 0 } } } })

/-- R30, R62, R63, R65, R143: at a grace expiry the GRACE entry leaves the table and its index and report status become the closed
report. A waiting report is withdrawn as STALE, with last transmit failure STALE and TX_FAILURE raised; where a waiting
notice not yet reported as stuck then becomes the current frame of a line stuck for 2 s, the last failure goes on to
LINE_STUCK (R143, log entry 18). A report in transmission stays PENDING and is marked expired; a settled one stays as it is.
OPEN, AHEAD and every block the close does not own are unchanged. The expiry's mark (log entry 2) and the disarming of grace in
this row (log entry 3) are the model's choices. R64: a collision and the grace expiry of one moment leave the report STALE
with TX_FAILURE raised, in either order and at any attempt count; that the eighth collision gives nothing up then is deduced
(log entry 34). -/
def Obligations.ReportAtGraceExpiry : Prop :=
  ∀ (s : State) (e : WindowEntry), s.rstnHigh = true → s.timebase.due.graceExpiry = true →
    s.windows.graceEntry = some e →
    let sending := s.transmitter.state = .sending ∧ s.transmitter.current = some .report
    ∃ t, exec .graceExpiry s = .next t ∧
      t =
        { s with
          timebase := { s.timebase with graceArmed := false, due := { s.timebase.due with graceExpiry := false } }
          windows :=
            { s.windows with
              graceEntry := none
              closedReport :=
                some { index := e.index
                       status := if e.reportStatus = .pending ∧ ¬sending then .stale else e.reportStatus } }
          station := { s.station with skew := t.station.skew }
          contexts := t.contexts, records := t.records, peers := t.peers, transmitter := t.transmitter
          causes := t.causes } ∧
      (e.reportStatus = .pending → ¬sending →
        t.transmitter.report = none ∧ t.transmitter.notice.isSome = s.transmitter.notice.isSome ∧
        flagOf t.causes.pending .txFailure = true ∧
        (s.transmitter.notice = none ∨ s.transmitter.stuckTimer < 15360 ∨ s.receiver.gapTimer = 4 ∨
            s.transmitter.state = .sending ∨ (∃ n, s.transmitter.notice = some n ∧ n.stuckReported = true) →
          t.transmitter.lastFailure = .stale ∧ t.transmitter.notice = s.transmitter.notice) ∧
        (∀ n, s.transmitter.notice = some n → n.stuckReported = false → 15360 ≤ s.transmitter.stuckTimer →
          s.receiver.gapTimer ≠ 4 → s.transmitter.state ≠ .sending → s.transmitter.current = some .report →
          t.transmitter.lastFailure = .lineStuck ∧
            t.transmitter.notice = some { n with stuckReported := true })) ∧
      (e.reportStatus = .pending → sending →
        t.transmitter =
          { s.transmitter with report := s.transmitter.report.map fun k => { k with expired := true } }) ∧
      (e.reportStatus ≠ .pending → t.transmitter = s.transmitter) ∧
      (∀ (f : ReportSlot) (w : WindowReport) (n : Nat), e.reportStatus = .pending → sending →
        s.transmitter.testMode = .off → s.receiver.parser = .held → s.transmitter.report = some f →
        f.content = .windowReport w → f.expired = false → s.transmitter.readBack = .matched n →
        n < s.transmitter.currentFrame.length →
        ∀ order ∈ [(Instr.txCollision, Instr.graceExpiry), (Instr.graceExpiry, Instr.txCollision)],
          ∃ u v : State, exec order.1 s = .next u ∧ exec order.2 u = .next v ∧
            v.windows.graceEntry = none ∧ v.windows.closedReport = some { index := e.index, status := .stale } ∧
            v.transmitter.report = none ∧ v.transmitter.giveUps = s.transmitter.giveUps ∧
            flagOf v.causes.pending .txFailure = true)

/-- R70 to R79: what the close of a window folds into a Period Context: the peak of each plant, replaced by a strictly greater
complex demand only; the own energy and the common share in the window's band and no other; the complex energy, unmetered
volume and reverse count; and the window counts. Each field saturates on its own. A 48-bit field whose sum would exceed its
limit, or that stood at it before the close, sets SATURATED; where none stands at its limit after the close SATURATED is as
before. A sum of exactly the limit stays open here (the model's choice is log entry 30). -/
def Obligations.CloseFoldsIntoContext : Prop :=
  ∀ (c : PeriodContext) (i : Items) (calendar : Calendar) (w : WindowEntry) (quietPeers : Nat),
    let b := bandOf calendar i.length w.index
    let top := 2 ^ 48 - 1
    let complex (p : Plant) : Nat := (w.own.get p).demand + (w.sums.get p).demand
    let total := i.weight + w.weightSum
    let share (p : Plant) : Nat :=
      if i.role = some .tenant ∧ total ≠ 0 then (w.sums.get p).common * i.weight / total else 0
    let either (flag : OwnFlags → Bool) : Prop := flag w.own.heat.flags = true ∨ flag w.own.cool.flags = true
    let rises (condition : Prop) (before after : Nat) : Prop :=
      (condition → after = min 65535 (before + 1)) ∧ (¬condition → after = before)
    let f := c.figures
    let c' := c.close i calendar w quietPeers
    let f' := c'.figures
    (c'.day = c.day ∧ c'.partialDay = c.partialDay ∧ c'.rxSnapshot = c.rxSnapshot ∧
      f'.dispositions = f.dispositions ∧ f'.addressClashes = f.addressClashes) ∧
    (∀ p : Plant,
      (((f.peak.get p).map Peak.complexDemand).getD 0 < complex p →
        f'.peak.get p =
          some { index := w.index, complexDemand := complex p, ownDemand := (w.own.get p).demand
                 contributors := w.contributors.length, sharePpm := (w.own.get p).demand * 1000000 / complex p }) ∧
      (complex p ≤ ((f.peak.get p).map Peak.complexDemand).getD 0 → f'.peak.get p = f.peak.get p) ∧
      (∀ k, k < 4 →
        (f'.energy.get p).get k =
          (if k = b then min top ((f.energy.get p).get k + (w.own.get p).energy) else (f.energy.get p).get k) ∧
        (f'.commonShare.get p).get k =
          (if k = b then min top ((f.commonShare.get p).get k + share p) else (f.commonShare.get p).get k)) ∧
      f'.complexEnergy.get p = min top (f.complexEnergy.get p + (w.own.get p).energy + (w.sums.get p).energy)) ∧
    f'.unmetered = min top (f.unmetered + w.own.heat.unmetered + w.own.cool.unmetered) ∧
    f'.reverseCount = min (2 ^ 32 - 1) (f.reverseCount + w.reverseCount) ∧
    f'.counts.closed = min 65535 (f.counts.closed + 1) ∧
    rises (i.expected - 1 - quietPeers ≤ w.contributors.length) f.counts.complete f'.counts.complete ∧
    rises (either OwnFlags.estimated) f.counts.estimated f'.counts.estimated ∧
    rises (either OwnFlags.faulted) f.counts.faulted f'.counts.faulted ∧
    rises (either OwnFlags.backup) f.counts.backup f'.counts.backup ∧
    rises (either OwnFlags.partialWindow) f.counts.partialWindows f'.counts.partialWindows ∧
    rises (i.role = some .tenant ∧ total = 0) f.counts.unapportioned f'.counts.unapportioned ∧
    f'.counts.contributorsHeard = min 65535 (f.counts.contributorsHeard + w.contributors.length) ∧
    f'.counts.estimatedContributors = min 65535 (f.counts.estimatedContributors + w.estimatedContributors) ∧
    (let limited (g : Figures) (p : Plant) : Prop :=
       top ≤ g.complexEnergy.get p ∨ ∃ k, k < 4 ∧ (top ≤ (g.energy.get p).get k ∨ top ≤ (g.commonShare.get p).get k)
     let exceeds (p : Plant) : Prop :=
       top < (f.energy.get p).get b + (w.own.get p).energy ∨ top < (f.commonShare.get p).get b + share p ∨
         top < f.complexEnergy.get p + (w.own.get p).energy + (w.sums.get p).energy
     (c.saturated = true → c'.saturated = true) ∧
     (top < f.unmetered + w.own.heat.unmetered + w.own.cool.unmetered ∨ (∃ p, exceeds p) → c'.saturated = true) ∧
     (top ≤ f.unmetered ∨ (∃ p, limited f p) → c'.saturated = true) ∧
     (f'.unmetered < top → (∀ p, ¬limited f' p) → c'.saturated = c.saturated))

/-- R67, R68, R80, R82, R83: a grace expiry closes its window into CURRENT, or into CLOSING where the window's day is the day
before CURRENT's; brings every Peer Entry up to date with the contributor set; and sets the skew status from the offsets
measured on the window's reports, raising CLOCK_SKEW on a change to BEHIND or AHEAD. The mark by which the expiry has been
issued is the model's choice (log entry 2). -/
def Obligations.CloseAtGraceExpiry : Prop :=
  ∀ (s : State) (e : WindowEntry) (c : PeriodContext), s.rstnHigh = true → s.timebase.due.graceExpiry = true →
    s.windows.graceEntry = some e → s.contexts.current = some c →
    let windows := 1440 / s.items.length.minutes
    let intoClosing := e.index / windows = (c.day + 65535) % 65536
    let quietPeers := s.peers.countP fun p => p.state = .quiet
    let measured (p : PeerEntry) (test : Int → Bool) : Bool :=
      decide (p.address ∈ e.contributors) &&
        (match p.acceptance with | some a => decide (a.offsetIndex = e.index) && test a.offset | none => false)
    let m := s.peers.countP fun p => measured p fun _ => true
    let above := s.peers.countP fun p => measured p fun offset => decide ((s.items.skewLimit : Int) < offset)
    let below := s.peers.countP fun p => measured p fun offset => decide (offset < -(s.items.skewLimit : Int))
    let skew : SkewStatus :=
      if 2 ≤ m ∧ m < above * 2 then .behind else if 2 ≤ m ∧ m < below * 2 then .ahead else .noSkew
    ∃ t, exec .graceExpiry s = .next t ∧
      (¬intoClosing → t.contexts = { s.contexts with current := some (c.close s.items s.calendar e quietPeers) } ∧
        t.records = s.records) ∧
      (intoClosing → t.contexts.current = some c) ∧
      (intoClosing → e.index % windows + 1 ≠ windows →
        t.contexts.closing = s.contexts.closing.map (fun k => k.close s.items s.calendar e quietPeers) ∧
        t.records = s.records) ∧
      t.peers = s.peers.map (fun p =>
        if p.address ∈ e.contributors then p
        else
          match p.state with
          | .present =>
            { p with missed := min 15 (p.missed + 1), state := if 3 ≤ p.missed then .silent else .present }
          | .silent => { p with missed := min 15 (p.missed + 1) }
          | .quiet | .incompatible => p) ∧
      t.station = { s.station with skew := skew } ∧
      (flagOf t.causes.pending .clockSkew = true ↔
        flagOf s.causes.pending .clockSkew = true ∨ (skew ≠ .noSkew ∧ skew ≠ s.station.skew))

/-- R94 to R98, R102: the record built from a context, with its costs per band rounded half up and held at 2^48 - 1; and the
record a merge leaves in the overflow slot: every sum saturating at its own width, the greater peak with a tie to the
older, and SATURATED where either had it or a field saturates. -/
def Obligations.RecordsAreBuiltAndMerged : Prop :=
  (∀ (kind : RecordKind) (i : Items) (c : PeriodContext) (rx : RxErrors),
    let r := buildRecord kind i c rx
    let term (joules rate : Nat) : Nat := (joules * rate + 1800000) / 3600000
    let cost (x rate : PerBand Nat) : Nat :=
      term x.band0 rate.band0 + term x.band1 rate.band1 + term x.band2 rate.band2 + term x.band3 rate.band3
    r.kind = kind ∧ r.address = i.stationAddress.getD 0 ∧ r.role = i.role ∧ r.firstDay = c.day ∧ r.lastDay = c.day ∧
    r.mergedCount = 1 ∧ r.partialDay = c.partialDay ∧ r.figures = c.figures ∧ r.rxErrors = rx ∧
    (∀ p, r.energyCost.get p = min (2 ^ 48 - 1) (cost (c.figures.energy.get p) (i.rate.get p)) ∧
      r.commonCost.get p = min (2 ^ 48 - 1) (cost (c.figures.commonShare.get p) (i.rate.get p))) ∧
    (r.saturated = true ↔
      c.saturated = true ∨ ∃ p, 2 ^ 48 - 1 < cost (c.figures.energy.get p) (i.rate.get p) ∨
        2 ^ 48 - 1 < cost (c.figures.commonShare.get p) (i.rate.get p))) ∧
  (∀ a b : Record,
    let r := mergeRecords a b
    let sums (bits : Nat) (field : Record → Nat) : Prop := field r = min (2 ^ bits - 1) (field a + field b)
    let beyond (bits : Nat) (field : Record → Nat) : Prop := 2 ^ bits - 1 < field a + field b
    let fields16 : List (Record → Nat) :=
      [fun x => x.figures.counts.closed, fun x => x.figures.counts.complete, fun x => x.figures.counts.estimated,
       fun x => x.figures.counts.faulted, fun x => x.figures.counts.backup, fun x => x.figures.counts.partialWindows,
       fun x => x.figures.counts.unapportioned, fun x => x.figures.counts.contributorsHeard,
       fun x => x.figures.counts.estimatedContributors, fun x => x.figures.dispositions.late,
       fun x => x.figures.dispositions.duplicate, fun x => x.figures.dispositions.farAhead,
       fun x => x.figures.addressClashes, fun x => x.rxErrors.framing, fun x => x.rxErrors.stray,
       fun x => x.rxErrors.length, fun x => x.rxErrors.crc]
    let fields48 : List (Record → Nat) :=
      [fun x => x.figures.unmetered, fun x => x.figures.complexEnergy.heat, fun x => x.figures.complexEnergy.cool,
       fun x => x.energyCost.heat, fun x => x.energyCost.cool, fun x => x.commonCost.heat, fun x => x.commonCost.cool,
       fun x => x.figures.energy.heat.band0, fun x => x.figures.energy.heat.band1,
       fun x => x.figures.energy.heat.band2, fun x => x.figures.energy.heat.band3,
       fun x => x.figures.energy.cool.band0, fun x => x.figures.energy.cool.band1,
       fun x => x.figures.energy.cool.band2, fun x => x.figures.energy.cool.band3,
       fun x => x.figures.commonShare.heat.band0, fun x => x.figures.commonShare.heat.band1,
       fun x => x.figures.commonShare.heat.band2, fun x => x.figures.commonShare.heat.band3,
       fun x => x.figures.commonShare.cool.band0, fun x => x.figures.commonShare.cool.band1,
       fun x => x.figures.commonShare.cool.band2, fun x => x.figures.commonShare.cool.band3]
    r.kind = .merged ∧ r.address = a.address ∧ r.role = a.role ∧ r.firstDay = a.firstDay ∧ r.lastDay = b.lastDay ∧
    r.mergedCount = min 65535 (a.mergedCount + 1) ∧ r.partialDay = (a.partialDay || b.partialDay) ∧
    (∀ field ∈ fields16, sums 16 field) ∧ sums 32 (fun x => x.figures.reverseCount) ∧
    (∀ field ∈ fields48, sums 48 field) ∧
    (∀ p,
      (a.figures.peak.get p = none → r.figures.peak.get p = b.figures.peak.get p) ∧
      (b.figures.peak.get p = none → r.figures.peak.get p = a.figures.peak.get p) ∧
      ∀ x y, a.figures.peak.get p = some x → b.figures.peak.get p = some y →
        r.figures.peak.get p = if x.complexDemand < y.complexDemand then some y else some x) ∧
    (r.saturated = true ↔
      a.saturated = true ∨ b.saturated = true ∨ 65535 < a.mergedCount + 1 ∨ (∃ field ∈ fields16, beyond 16 field) ∨
        beyond 32 (fun x => x.figures.reverseCount) ∨ ∃ field ∈ fields48, beyond 48 field))

/-- R85, R95, R100, R101: the close of the last window of the day in CLOSING builds the day's FINAL record from the context as
that close leaves it and discards the context. With room in the queue the record enters at the tail and RECORD_READY is
raised, and QUEUE_ALERT where the level reaches 8 - QUEUE_ALERT_LEVEL; with the queue full it goes to the overflow slot,
merged with what stands there, and QUEUE_OVERRUN is raised. The mark by which the expiry has been issued is the model's
choice (log entry 2). -/
def Obligations.DayEndRecord : Prop :=
  ∀ (s : State) (e : WindowEntry) (c k : PeriodContext) (rx : RxErrors), s.rstnHigh = true →
    s.timebase.due.graceExpiry = true → s.windows.graceEntry = some e → s.contexts.current = some c →
    s.contexts.closing = some k → k.rxSnapshot = some rx →
    let windows := 1440 / s.items.length.minutes
    e.index / windows = (c.day + 65535) % 65536 → e.index % windows + 1 = windows →
    let day := k.close s.items s.calendar e (s.peers.countP fun p => p.state = .quiet)
    let record := buildRecord .finalRecord s.items day rx
    ∃ t, exec .graceExpiry s = .next t ∧ t.contexts = { current := some c, closing := none } ∧
      (s.records.queue.length < 8 →
        t.records = { s.records with queue := s.records.queue ++ [record] } ∧
        flagOf t.causes.pending .recordReady = true ∧
        (flagOf t.causes.pending .queueAlert = true ↔
          flagOf s.causes.pending .queueAlert = true ∨ s.records.queue.length + 1 = 8 - s.items.queueAlertLevel) ∧
        flagOf t.causes.pending .queueOverrun = flagOf s.causes.pending .queueOverrun) ∧
      (8 ≤ s.records.queue.length →
        t.records =
          { s.records with
            overflow :=
              some (match s.records.overflow with | none => record | some older => mergeRecords older record) } ∧
        flagOf t.causes.pending .queueOverrun = true ∧
        flagOf t.causes.pending .recordReady = flagOf s.causes.pending .recordReady ∧
        flagOf t.causes.pending .queueAlert = flagOf s.causes.pending .queueAlert)

/-- R98 to R100, R104, R105: SNAPSHOT on a commissioned station adds an INTERIM record of CURRENT, with the receiver's error
counters, at the tail of a queue of fewer than 8; with 8 records it is QUEUE_FULL, in UNCONFIGURED NOT_NOW, and both change
nothing. RELEASE RECORD removes the head record, and a record in the overflow slot then moves to the tail; on an empty queue
it is EMPTY and changes nothing. A record that enters the queue raises RECORD_READY, and QUEUE_ALERT where the level reaches
8 - QUEUE_ALERT_LEVEL. CLEAR QUEUE empties queue and slot, adds the records removed to the discarded-records counter, which
is held at 65535, and raises no cause. -/
def Obligations.SnapshotReleaseAndClear : Prop :=
  (∀ s : State, s.portOpen → s.station.state = .unconfigured → exec .snapshot s = .next (s.answered .notNow [])) ∧
  (∀ (s : State) (c : PeriodContext), s.portOpen → s.contexts.current = some c →
     (s.station.state ≠ .unconfigured → 8 ≤ s.records.queue.length →
       exec .snapshot s = .next (s.answered .queueFull [])) ∧
     (s.station.state ≠ .unconfigured → s.records.queue.length < 8 → ∃ u : CauseUnit,
       exec .snapshot s = .next
         ({ s with
             records :=
               { s.records with
                 queue := s.records.queue ++ [buildRecord .interim s.items c s.receiver.errors] }
             causes := u }.answered .ok []) ∧
       flagOf u.pending .recordReady = true ∧
       (flagOf u.pending .queueAlert = true ↔
         flagOf s.causes.pending .queueAlert = true ∨ s.records.queue.length + 1 = 8 - s.items.queueAlertLevel) ∧
       (∀ x, x ≠ .recordReady → x ≠ .queueAlert → flagOf u.pending x = flagOf s.causes.pending x) ∧
       u.enables = s.causes.enables ∧ u.master = s.causes.master ∧ u.mode = s.causes.mode)) ∧
  (∀ s : State, s.portOpen →
     (s.records.queue = [] → exec .releaseRecord s = .next (s.answered .empty [])) ∧
     (∀ x rest, s.records.queue = x :: rest → s.records.overflow = none →
       exec .releaseRecord s = .next ({ s with records := { s.records with queue := rest } }.answered .ok [])) ∧
     (∀ x rest o, s.records.queue = x :: rest → s.records.overflow = some o → ∃ u : CauseUnit,
       exec .releaseRecord s = .next
         ({ s with records := { s.records with queue := rest ++ [o], overflow := none }, causes := u }.answered .ok []) ∧
       flagOf u.pending .recordReady = true ∧
       (flagOf u.pending .queueAlert = true ↔
         flagOf s.causes.pending .queueAlert = true ∨ rest.length + 1 = 8 - s.items.queueAlertLevel) ∧
       (∀ c, c ≠ .recordReady → c ≠ .queueAlert → flagOf u.pending c = flagOf s.causes.pending c)) ∧
     exec .clearQueue s = .next
       ({ s with
           records :=
             { queue := [], overflow := none
               discarded :=
                 min 65535
                   (s.records.discarded + s.records.queue.length + if s.records.overflow.isSome then 1 else 0) } }.answered
         .ok []))

/-- R104, R195: FETCH RECORD answers OK with the 224 octets of the record at the head, each field at its offset, and leaves the
record in place; with an empty queue it answers EMPTY with 224 octets of 0x00. It changes nothing else. -/
def Obligations.FetchRecordLayout : Prop :=
  ∀ s : State, s.portOpen →
    (s.records.queue = [] → exec .fetchRecord s = .next (s.answered .empty (List.replicate 224 0x00))) ∧
    ∀ x rest, s.records.queue = x :: rest → ∃ r : List Octet,
      exec .fetchRecord s = .next (s.answered .ok r) ∧ r.length = 224 ∧
      octetAt r 0 = x.kind.code ∧ fieldAt r 1 1 = x.address % 256 ∧ octetAt r 2 = (x.role.map Role.code).getD 0 ∧
      fieldAt r 3 2 = x.firstDay % 65536 ∧ fieldAt r 5 2 = x.lastDay % 65536 ∧ fieldAt r 7 2 = x.mergedCount % 65536 ∧
      (octetAt r 9).getLsbD 0 = x.partialDay ∧ (octetAt r 9).getLsbD 1 = x.saturated ∧ (octetAt r 9).toNat < 4 ∧
      (∀ b, b < 4 →
        fieldAt r (10 + 6 * b) 6 = (x.figures.energy.heat.get b) % 2 ^ 48 ∧
        fieldAt r (34 + 6 * b) 6 = (x.figures.energy.cool.get b) % 2 ^ 48 ∧
        fieldAt r (58 + 6 * b) 6 = (x.figures.commonShare.heat.get b) % 2 ^ 48 ∧
        fieldAt r (82 + 6 * b) 6 = (x.figures.commonShare.cool.get b) % 2 ^ 48) ∧
      fieldAt r 106 6 = x.figures.complexEnergy.heat % 2 ^ 48 ∧
      fieldAt r 112 6 = x.figures.complexEnergy.cool % 2 ^ 48 ∧
      (∀ (p : Plant) (base : Nat), (p = .heat ∧ base = 118 ∨ p = .cool ∧ base = 137) →
        (x.figures.peak.get p = none → fieldAt r base 19 = 0) ∧
        ∀ k, x.figures.peak.get p = some k →
          octetAt r base = 0x01 ∧ fieldAt r (base + 1) 4 = k.index % 2 ^ 32 ∧
          fieldAt r (base + 5) 6 = k.complexDemand % 2 ^ 48 ∧ fieldAt r (base + 11) 4 = k.ownDemand % 2 ^ 32 ∧
          fieldAt r (base + 15) 1 = k.contributors % 256 ∧ fieldAt r (base + 16) 3 = k.sharePpm % 2 ^ 24) ∧
      fieldAt r 156 6 = x.figures.unmetered % 2 ^ 48 ∧ fieldAt r 162 4 = x.figures.reverseCount % 2 ^ 32 ∧
      fieldAt r 166 2 = x.figures.counts.closed % 65536 ∧ fieldAt r 168 2 = x.figures.counts.complete % 65536 ∧
      fieldAt r 170 2 = x.figures.counts.estimated % 65536 ∧ fieldAt r 172 2 = x.figures.counts.faulted % 65536 ∧
      fieldAt r 174 2 = x.figures.counts.backup % 65536 ∧ fieldAt r 176 2 = x.figures.counts.partialWindows % 65536 ∧
      fieldAt r 178 2 = x.figures.counts.unapportioned % 65536 ∧
      fieldAt r 180 2 = x.figures.counts.contributorsHeard % 65536 ∧
      fieldAt r 182 2 = x.figures.counts.estimatedContributors % 65536 ∧
      fieldAt r 184 2 = x.figures.dispositions.late % 65536 ∧
      fieldAt r 186 2 = x.figures.dispositions.duplicate % 65536 ∧
      fieldAt r 188 2 = x.figures.dispositions.farAhead % 65536 ∧
      fieldAt r 190 2 = x.figures.addressClashes % 65536 ∧ fieldAt r 192 2 = x.rxErrors.framing % 65536 ∧
      fieldAt r 194 2 = x.rxErrors.stray % 65536 ∧ fieldAt r 196 2 = x.rxErrors.length % 65536 ∧
      fieldAt r 198 2 = x.rxErrors.crc % 65536 ∧ fieldAt r 200 6 = x.energyCost.heat % 2 ^ 48 ∧
      fieldAt r 206 6 = x.energyCost.cool % 2 ^ 48 ∧ fieldAt r 212 6 = x.commonCost.heat % 2 ^ 48 ∧
      fieldAt r 218 6 = x.commonCost.cool % 2 ^ 48


/-! ### The Line Receiver -/

/-- R112, R114, R116, R118 to R120, R138, R140: a character on the source takes the parser through the table of R116: an octet
in AFTER_FRAME, or other than 0xC3 in READY, is stray; a missing stop bit in READY or IN_FRAME is a framing error; a kind
octet that names no frame or a length octet that is not the kind's is a length error; each counts once and leads to
WAIT_GAP. OFF, HELD and WAIT_GAP take nothing, so with line-test mode OFF the station does not hear itself. The gap timer
returns to 0, and a running attempt compares the octet with the one it sent. On the internal loop the line is ignored and the
character is the next octet the station sends (log entry 15, deduced), which passes to the parser as any other. A start bit
not yet taken comes first and defers a backoff (log entry 14), whose slots then stand at 0 (log entry 17), a missing stop bit
leaves LRX at space (log entry 32), and an octet that differs leaves the attempt in SENDING until TX_COLLISION (log entry 35):
the model's choices. An octet after a complete frame that waits to be judged is left out (log entry 13). -/
def Obligations.CharacterReachesTheParser : Prop :=
  ∀ (s : State) (octet : Octet) (stopBit : Bool), s.rstnHigh = true →
    let internal := s.transmitter.testMode = .internal
    (s.receiverOn = false → exec (.lineOctetReceived octet stopBit) s = .next s) ∧
    (internal → s.transmitter.state ≠ .sending ∨ s.transmitter.readBack = .differed →
      exec (.lineOctetReceived octet stopBit) s = .next s) ∧
    (∀ (o : Octet) (b : Bool), s.receiverOn = true →
      (¬internal ∧ o = octet ∧ b = stopBit ∨
        internal ∧ s.transmitter.state = .sending ∧ b = true ∧
          ∃ n, s.transmitter.readBack = .matched n ∧ s.transmitter.currentFrame[n]? = some o) →
      (s.receiver.parser = .inFrame → frameComplete s.receiver.frame = false) →
      let old := s.receiver
      let lengthOf (kind : Octet) : Option Nat :=
        if kind = 0x31 then some 32 else if kind = 0x32 then some 11 else if kind = 0x3F then some 8 else none
      let defers := s.transmitter.state = .backoff ∧ old.charInProgress = false
      ∃ (x : Receiver) (r : ReadBack),
        exec (.lineOctetReceived octet stopBit) s = .next
          { s with
            receiver :=
              { old with
                gapTimer := 0, charInProgress := false, lrxAtSpace := if internal then old.lrxAtSpace else !b
                parser := x.parser, frame := x.frame, arrivalSecond := x.arrivalSecond, errors := x.errors }
            transmitter :=
              { s.transmitter with
                state := if defers then .waitIdle else s.transmitter.state
                backoffSlots := if defers then 0 else s.transmitter.backoffSlots
                readBack := r } } ∧
        (old.parser = .off ∨ old.parser = .held ∨ old.parser = .waitGap → x = old) ∧
        (old.parser = .afterFrame ∨ (old.parser = .ready ∧ b = true ∧ o ≠ 0xC3) →
          x = { old with
                parser := .waitGap, frame := []
                errors := { old.errors with stray := min 65535 (old.errors.stray + 1) } }) ∧
        ((old.parser = .ready ∨ old.parser = .inFrame) ∧ b = false →
          x = { old with
                parser := .waitGap, frame := []
                errors := { old.errors with framing := min 65535 (old.errors.framing + 1) } }) ∧
        (old.parser = .ready ∧ b = true ∧ o = 0xC3 →
          x = { old with parser := .inFrame, frame := [0xC3], arrivalSecond := s.timebase.secondOfDay }) ∧
        (old.parser = .inFrame ∧ b = true →
          let wrongKind := old.frame.length = 1 ∧ lengthOf o = none
          let wrongLength := ∃ lead kind, old.frame = [lead, kind] ∧ lengthOf kind ≠ some o.toNat
          (wrongKind ∨ wrongLength →
            x = { old with
                  parser := .waitGap, frame := []
                  errors := { old.errors with length := min 65535 (old.errors.length + 1) } }) ∧
          (¬wrongKind → ¬wrongLength → x = { old with frame := old.frame ++ [o] })) ∧
        (s.transmitter.state ≠ .sending → r = s.transmitter.readBack) ∧
        (s.transmitter.state = .sending → ∀ n sent, s.transmitter.readBack = .matched n →
          s.transmitter.currentFrame[n]? = some sent →
          r = if o = sent ∧ b = true then .matched (n + 1) else .differed) ∧
        (s.transmitter.readBack = .differed → r = .differed))

/-- R112, R116, R120, R137, R138: an idle gap leads WAIT_GAP and AFTER_FRAME to READY, is a length error in IN_FRAME, and leaves
the other states; a frame waiting in WAIT_IDLE passes to BACKOFF with k = (5 × A + 3 × a + s) mod min(8 × 2^a, 128), A being 0
for a Line Test. A start bit on the source returns the gap timer to 0 and defers a backoff to WAIT_IDLE, counting nothing.
Neither occurs with the receiver off. Both tell that LRX has been at mark, an idle gap with its rise from space, no gap ends
while a character is in progress, and the internal loop has no start bits but the station's own: the model's choices (log
entries 32, 14 and 15), as is that the slots of a deferred backoff stand at 0 (log entry 17). A frame that waits to be judged is left out (log entry 13). -/
def Obligations.IdleGapAndStartBit : Prop :=
  ∀ s : State, s.rstnHigh = true →
    let k (a attempts seed : Nat) : Nat := (5 * a + 3 * attempts + seed) % min (8 * 2 ^ attempts) 128
    (s.receiverOn = false → exec .idleGap s = .next s ∧ exec .startBit s = .next s) ∧
    (s.receiverOn = true → s.receiver.gapTimer < 4 → s.receiver.charInProgress = false →
      (s.receiver.parser = .inFrame → frameComplete s.receiver.frame = false) → ∃ (x : Receiver) (y : Transmitter),
      exec .idleGap s = .next
        { s with
          receiver :=
            { x with
              gapTimer := 4
              lrxAtSpace := if s.transmitter.testMode = .internal then s.receiver.lrxAtSpace else false }
          transmitter := y } ∧
      (s.receiver.parser = .waitGap ∨ s.receiver.parser = .afterFrame → x = { s.receiver with parser := .ready }) ∧
      (s.receiver.parser = .inFrame →
        x = { s.receiver with
              parser := .ready, frame := []
              errors := { s.receiver.errors with length := min 65535 (s.receiver.errors.length + 1) } }) ∧
      (s.receiver.parser = .off ∨ s.receiver.parser = .held ∨ s.receiver.parser = .ready → x = s.receiver) ∧
      (s.transmitter.state ≠ .waitIdle → y = s.transmitter) ∧
      (s.transmitter.state = .waitIdle →
        y = { s.transmitter with state := .backoff, backoffSlots := y.backoffSlots, stuckTimer := 0 } ∧
        (s.transmitter.current = some .report → ∀ f, s.transmitter.report = some f →
          (∀ w, f.content = .windowReport w → y.backoffSlots = k (s.items.stationAddress.getD 0) f.attempts f.seed) ∧
          (∀ n, f.content = .lineTest n → y.backoffSlots = k 0 f.attempts f.seed)) ∧
        (s.transmitter.current = some .notice → ∀ f, s.transmitter.notice = some f →
          y.backoffSlots = k (s.items.stationAddress.getD 0) f.attempts f.seed))) ∧
    (s.receiverOn = true → (s.transmitter.testMode ≠ .internal ∨ s.transmitter.state = .sending) →
      exec .startBit s = .next
        { s with
          receiver :=
            { s.receiver with
              gapTimer := 0, charInProgress := true
              lrxAtSpace := if s.transmitter.testMode = .internal then s.receiver.lrxAtSpace else false }
          transmitter :=
            { s.transmitter with
              state := if s.transmitter.state = .backoff then .waitIdle else s.transmitter.state
              backoffSlots := if s.transmitter.state = .backoff then 0 else s.transmitter.backoffSlots } }) ∧
    (s.transmitter.testMode = .internal → s.transmitter.state ≠ .sending → exec .startBit s = .next s)

/-- R121, R124 to R126: a complete frame is judged at FRAME_RECEIVED. A CRC that differs counts a CRC error. A good Line Test is
an echo in a line-test mode and ignored with mode OFF; a malformed frame counts a length error; a report or notice is
ignored in UNCONFIGURED; one under the station's own address is an address clash, counted by the receiver and in CURRENT,
and raises ADDRESS_CLASH. The parser goes to AFTER_FRAME, and nothing else changes. -/
def Obligations.FrameIsJudged : Prop :=
  ∀ (s : State) (kind : Octet) (payload : List Octet), s.rstnHigh = true → s.receiver.parser = .inFrame →
    payloadLength kind = some payload.length →
    let after := { s.receiver with parser := .afterFrame, frame := [] }
    let judged (r : Receiver) : Prop := exec .frameReceived s = .next { s with receiver := r }
    let malformed : Prop := judged { after with errors := { after.errors with length := min 65535 (after.errors.length + 1) } }
    let ignored : Prop := judged { after with ignored := min 65535 (after.ignored + 1) }
    let good := s.receiver.frame = frameOctets kind payload
    let sender := fieldAt payload 0 1
    (∀ c1 c0 : Octet,
      s.receiver.frame = 0xC3 :: kind :: BitVec.ofNat 8 payload.length :: payload ++ [c1, c0] →
      c1 ++ c0 ≠ crc16 (kind :: BitVec.ofNat 8 payload.length :: payload) →
      judged { after with errors := { after.errors with crc := min 65535 (after.errors.crc + 1) } }) ∧
    (good → kind = 0x3F →
      (¬(octetAt payload 0 = 0x00 ∧ payload.drop 3 = [0x5A, 0xA5, 0x33, 0xCC, 0x0F]) → malformed) ∧
      (octetAt payload 0 = 0x00 → payload.drop 3 = [0x5A, 0xA5, 0x33, 0xCC, 0x0F] →
        (s.transmitter.testMode = .off → ignored) ∧
        (s.transmitter.testMode ≠ .off →
          judged
            { after with
              testEchoes := min 65535 (after.testEchoes + 1), lastEcho := some (fieldAt payload 1 2) }))) ∧
    (good → kind ≠ 0x3F →
      (s.station.state = .unconfigured → ignored) ∧
      (s.station.state ≠ .unconfigured → sender = 0 ∨ 64 < sender → malformed) ∧
      (s.station.state ≠ .unconfigured → kind = 0x32 → octetAt payload 2 ≠ 0x01 → octetAt payload 2 ≠ 0x02 →
        octetAt payload 2 ≠ 0x04 → malformed) ∧
      (s.station.state ≠ .unconfigured → 1 ≤ sender → sender ≤ 64 → s.items.stationAddress = some sender →
        (kind = 0x31 ∨ octetAt payload 2 = 0x01 ∨ octetAt payload 2 = 0x02 ∨ octetAt payload 2 = 0x04) →
        ∃ u : CauseUnit,
          exec .frameReceived s = .next
            { s with
              receiver := { after with addressClashes := min 65535 (after.addressClashes + 1) }
              contexts :=
                { s.contexts with
                  current := s.contexts.current.map fun c =>
                    { c with figures := { c.figures with addressClashes := min 65535 (c.figures.addressClashes + 1) } } }
              causes := u } ∧
          (∀ x, flagOf u.pending x = (decide (x = .addressClash) || flagOf s.causes.pending x)) ∧
          u.enables = s.causes.enables ∧ u.master = s.causes.master ∧ u.mode = s.causes.mode))

/-- R115, R117, R122 to R124, R194: the station's frames are lead 0xC3, kind, length, payload and CRC, high octet first, complete
and good as the receiver judges them, and a CRC sent after the octets it covers leaves the CRC register at 0. The payloads of
a Window Report, a Presence Notice and a Line Test have their fields at the offsets of R194, most significant octet first,
and the quality octet its eight flags; a Window Report or Presence Notice whose fields fit their widths is read back from
its payload field by field. -/
def Obligations.FramesReadBack : Prop :=
  let carries (l : List Octet) (offset width value : Nat) : Prop :=
    ∀ k, k < width → l[offset + k]? = some (BitVec.ofNat 8 (value / 256 ^ (width - 1 - k)))
  (∀ (kind : Octet) (payload : List Octet),
    let crc := crc16 (kind :: BitVec.ofNat 8 payload.length :: payload)
    frameOctets kind payload =
      [0xC3, kind, BitVec.ofNat 8 payload.length] ++ payload ++ [crc.extractLsb' 8 8, crc.extractLsb' 0 8]) ∧
  (∀ r : WindowReport,
    carries r.payload 0 1 r.sender ∧ r.payload[1]? = some r.roleCode ∧ carries r.payload 2 2 r.day ∧
    carries r.payload 4 2 r.windowInDay ∧ carries r.payload 6 4 r.demand.heat ∧ carries r.payload 10 4 r.demand.cool ∧
    carries r.payload 14 5 r.energy.heat ∧ carries r.payload 19 5 r.energy.cool ∧ carries r.payload 24 2 r.weight ∧
    carries r.payload 26 2 r.digest ∧ carries r.payload 28 3 r.second ∧
    ∃ q : Octet, r.payload[31]? = some q ∧
      q.getLsbD 0 = r.quality.heat.estimated ∧ q.getLsbD 1 = r.quality.heat.faulted ∧
      q.getLsbD 2 = r.quality.heat.backup ∧ q.getLsbD 3 = r.quality.heat.partialWindow ∧
      q.getLsbD 4 = r.quality.cool.estimated ∧ q.getLsbD 5 = r.quality.cool.faulted ∧
      q.getLsbD 6 = r.quality.cool.backup ∧ q.getLsbD 7 = r.quality.cool.partialWindow) ∧
  (∀ n : PresenceNotice,
    carries n.payload 0 1 n.sender ∧ n.payload[1]? = some n.roleCode ∧
    (n.announced = .joining → n.payload[2]? = some 0x01) ∧ (n.announced = .running → n.payload[2]? = some 0x02) ∧
    (n.announced = .quiet → n.payload[2]? = some 0x04) ∧
    carries n.payload 3 2 n.weight ∧ carries n.payload 5 2 n.digest ∧ carries n.payload 7 1 n.expected ∧
    carries n.payload 8 3 n.second) ∧
  (∀ sequence : Nat,
    (lineTestPayload sequence)[0]? = some 0x00 ∧ carries (lineTestPayload sequence) 1 2 sequence ∧
    (lineTestPayload sequence).drop 3 = [0x5A, 0xA5, 0x33, 0xCC, 0x0F]) ∧
  (∀ l : List Octet, crc16 (l ++ octets 2 (crc16 l).toNat) = 0x0000#16) ∧
  (∀ (kind : Octet) (payload : List Octet), payloadLength kind = some payload.length →
    (frameOctets kind payload).length = payload.length + 5 ∧ frameComplete (frameOctets kind payload) = true ∧
    frameGood (frameOctets kind payload) = true ∧ framePayload (frameOctets kind payload) = payload ∧
    octetAt (frameOctets kind payload) 1 = kind) ∧
  (∀ r : WindowReport, r.payload.length = 32 ∧
    (r.sender < 256 → r.day < 65536 → r.windowInDay < 65536 → (∀ p, r.demand.get p < 2 ^ 32) →
      (∀ p, r.energy.get p < 2 ^ 40) → r.weight < 65536 → r.digest < 65536 → r.second < 2 ^ 24 →
      reportOfPayload r.payload = r)) ∧
  (∀ n : PresenceNotice, n.payload.length = 11 ∧
    (n.sender < 256 → n.weight < 65536 → n.digest < 65536 → n.expected < 256 → n.second < 2 ^ 24 →
      noticeOfPayload n.payload = some n)) ∧
  (∀ sequence : Nat, (lineTestPayload sequence).length = 8 ∧ lineTestWellFormed (lineTestPayload sequence) = true ∧
    fieldAt (lineTestPayload sequence) 1 2 = sequence % 65536)

/-! ### Peers and the Window Table -/

/-- R52 to R55, R127, R153, R155, R157 to R159: a Window Report from a peer with the station's digest. Its position against OPEN
and the contributor set of the entry it reaches give one disposition. ACCEPTED adds the sender, its demand and energy, a
TENANT's weight and a COMMON's energy to that entry and no other, and renews the sender's Peer Entry with the offset of
the clocks; any other disposition changes no entry, and counts in the Peer Entry and in CURRENT. -/
def Obligations.WindowReportDisposition : Prop :=
  ∀ (s : State) (payload : List Octet) (o : WindowEntry) (c : PeriodContext), s.rstnHigh = true →
    s.station.state ≠ .unconfigured → s.receiver.parser = .inFrame → payload.length = 32 →
    s.receiver.frame = frameOctets 0x31 payload → s.windows.openEntry = some o → s.contexts.current = some c →
    let r := reportOfPayload payload
    1 ≤ r.sender → r.sender ≤ 64 → s.items.stationAddress ≠ some r.sender → r.digest = s.station.digest →
    let windows := 1440 / s.items.length.minutes
    let x := (r.day * windows + r.windowInDay) % (65536 * windows)
    let d := indexDifference s.items.length x o.index
    let target : Option WindowEntry :=
      if d = 1 then s.windows.aheadEntry else if d = 0 then some o else if d = -1 then s.windows.graceEntry else none
    let before : PeerEntry := (findPeer s.peers r.sender).getD (PeerEntry.created r.sender r.roleCode r.weight)
    let compatible : PeerEntry :=
      { before with
        lastDigest := s.station.digest, state := if before.state = .incompatible then .present else before.state }
    let received (t : State) : Prop :=
      exec .frameReceived s = .next t ∧
      t = { s with
            receiver := { s.receiver with parser := .afterFrame, frame := [] }
            windows := t.windows, peers := t.peers, contexts := t.contexts } ∧
      ∀ a, a ≠ r.sender → findPeer t.peers a = findPeer s.peers a
    let dropped (t : State) (entry : PeerEntry) (counts : DispositionCounts) : Prop :=
      t.windows = s.windows ∧ findPeer t.peers r.sender = some entry ∧
      t.contexts = { s.contexts with current := some { c with figures := { c.figures with dispositions := counts } } }
    let counts := c.figures.dispositions
    ∃ t, received t ∧
      (∀ e, target = some e → r.sender ∉ e.contributors →
        ∃ e' : WindowEntry,
          t.windows =
            { s.windows with
              aheadEntry := if d = 1 then some e' else s.windows.aheadEntry
              openEntry := if d = 0 then some e' else s.windows.openEntry
              graceEntry := if d = -1 then some e' else s.windows.graceEntry } ∧
          (∀ a, a ∈ e'.contributors ↔ a = r.sender ∨ a ∈ e.contributors) ∧
          e'.contributors.length = e.contributors.length + 1 ∧
          e' =
            { e with
              contributors := e'.contributors
              weightSum := e.weightSum + if r.roleCode = 0x01 then r.weight else 0
              sums :=
                ⟨⟨e.sums.heat.demand + r.demand.heat, e.sums.heat.energy + r.energy.heat,
                    e.sums.heat.common + if r.roleCode = 0x02 then r.energy.heat else 0⟩,
                 ⟨e.sums.cool.demand + r.demand.cool, e.sums.cool.energy + r.energy.cool,
                    e.sums.cool.common + if r.roleCode = 0x02 then r.energy.cool else 0⟩⟩
              estimatedContributors :=
                e.estimatedContributors +
                  if r.quality.heat.estimated || r.quality.heat.faulted || r.quality.cool.estimated ||
                    r.quality.cool.faulted then 1 else 0 } ∧
          t.contexts = s.contexts ∧
          findPeer t.peers r.sender =
            some
              { compatible with
                state := .present, accepted := min 65535 (before.accepted + 1), missed := 0
                roleCode := r.roleCode, weight := r.weight
                acceptance :=
                  some
                    { lastWindow := x, offsetIndex := x
                      offset := ((r.second : Int) - s.receiver.arrivalSecond + 43200) % 86400 - 43200 } }) ∧
      (∀ e, target = some e → r.sender ∈ e.contributors →
        dropped t { compatible with duplicate := min 65535 (before.duplicate + 1) }
          { counts with duplicate := min 65535 (counts.duplicate + 1) }) ∧
      (2 ≤ d →
        dropped t { compatible with farAhead := min 65535 (before.farAhead + 1) }
          { counts with farAhead := min 65535 (counts.farAhead + 1) }) ∧
      (d ≤ -2 ∨ (d = -1 ∧ s.windows.graceEntry = none) →
        dropped t { compatible with late := min 65535 (before.late + 1) }
          { counts with late := min 65535 (counts.late + 1) })

/-- R127, R153 to R156: a Presence Notice from a peer updates its entry's role, weight, announced state, announced expected
count and last digest, and with the station's own digest makes it QUIET or PRESENT as announced. With a differing digest
the entry is INCOMPATIBLE, and a Window Report with one changes no more of it than the last digest, counts as an
incompatible frame and reaches no window. PEER_INCOMPATIBLE is raised on the entry into INCOMPATIBLE only. -/
def Obligations.NoticesAndIncompatiblePeers : Prop :=
  ∀ (s : State) (kind : Octet) (payload : List Octet), s.rstnHigh = true → s.station.state ≠ .unconfigured →
    s.receiver.parser = .inFrame → payloadLength kind = some payload.length →
    s.receiver.frame = frameOctets kind payload → 1 ≤ fieldAt payload 0 1 → fieldAt payload 0 1 ≤ 64 →
    s.items.stationAddress ≠ some (fieldAt payload 0 1) →
    let sender := fieldAt payload 0 1
    let after := { s.receiver with parser := .afterFrame, frame := [] }
    let received (t : State) (digest : Nat) (before entry : PeerEntry) (r : Receiver) : Prop :=
      exec .frameReceived s = .next t ∧
      t = { s with receiver := r, peers := t.peers, causes := t.causes } ∧
      (∀ a, a ≠ sender → findPeer t.peers a = findPeer s.peers a) ∧ findPeer t.peers sender = some entry ∧
      (∀ x, flagOf t.causes.pending x =
        (flagOf s.causes.pending x ||
          decide (x = .peerIncompatible ∧ digest ≠ s.station.digest ∧ before.state ≠ .incompatible)))
    (∀ n, kind = 0x32 → noticeOfPayload payload = some n →
      let before := (findPeer s.peers sender).getD (PeerEntry.created sender n.roleCode n.weight)
      ∃ t, received t n.digest before
        { before with
          lastDigest := n.digest, roleCode := n.roleCode, weight := n.weight, announced := some n.announced
          announcedExpected := some n.expected
          state :=
            if n.digest ≠ s.station.digest then .incompatible
            else if n.announced = .quiet then .quiet else .present }
        after) ∧
    (kind = 0x31 →
      let r := reportOfPayload payload
      let before := (findPeer s.peers sender).getD (PeerEntry.created sender r.roleCode r.weight)
      r.digest ≠ s.station.digest → ∃ t,
        received t r.digest before { before with lastDigest := r.digest, state := .incompatible }
          { after with incompatible := min 65535 (after.incompatible + 1) })

/-! ### The Line Transmitter -/

/-- R111, R114, R139, R148, R150: the last backoff slot ends: the transmitter enters SENDING with the current frame, whose sender second-of-day is
filled from the Timebase (a Line Test has none), and with line-test mode OFF the parser is HELD and a frame in progress
abandoned. Outside BACKOFF the event is no occurrence. LDE is high exactly in SENDING outside INTERNAL mode. In SENDING the
frame's octets go out one after another without pause, each as a start bit at space, eight data bits from the least
significant and a stop bit at mark: on LTX, which rests at mark otherwise, or in INTERNAL mode on the loop alone. That the
backoff slots stand at 0 outside BACKOFF is the model's choice (log entry 17), as is that an octet that differed ends LDE and
the frame in a row of its own (log entry 35). -/
def Obligations.AttemptStarts : Prop :=
  ∀ s : State, s.rstnHigh = true →
    let second := s.timebase.secondOfDay
    (s.transmitter.state ≠ .backoff → exec .backoffExpiry s = .next s) ∧
    (s.transmitter.state = .backoff → ∃ (k : Option ReportSlot) (n : Option NoticeSlot),
      exec .backoffExpiry s = .next
        { s with
          transmitter :=
            { s.transmitter with
              state := .sending, backoffSlots := 0, readBack := .matched 0, report := k, notice := n }
          receiver :=
            if s.transmitter.testMode = .off then { s.receiver with parser := .held, frame := [] } else s.receiver } ∧
      (s.transmitter.current ≠ some .report → k = s.transmitter.report) ∧
      (s.transmitter.current ≠ some .notice → n = s.transmitter.notice) ∧
      (s.transmitter.current = some .report → ∀ f, s.transmitter.report = some f →
        (∀ w, f.content = .windowReport w →
          k = some { f with content := .windowReport { w with second := second } }) ∧
        (∀ m, f.content = .lineTest m → k = some f)) ∧
      (s.transmitter.current = some .notice → ∀ f, s.transmitter.notice = some f →
        n = some { f with notice := { f.notice with second := second } })) ∧
    (s.lde = true ↔ s.transmitter.state = .sending ∧ s.transmitter.testMode ≠ .internal) ∧
    (s.lde = false → ∀ bit, s.ltx bit = true) ∧
    (s.transmitter.testMode ≠ .internal ∨ s.transmitter.state ≠ .sending → ∀ bit, s.loopLevel bit = true) ∧
    (s.transmitter.state = .sending →
      let carried (bit : Nat) : Bool := if s.lde then s.ltx bit else s.loopLevel bit
      (∀ bit, 10 * s.transmitter.currentFrame.length ≤ bit → carried bit = true) ∧
      ∀ (k : Nat) (o : Octet), s.transmitter.currentFrame[k]? = some o →
        carried (10 * k) = false ∧ (∀ i, i < 8 → carried (10 * k + 1 + i) = o.getLsbD i) ∧ carried (10 * k + 9) = true)

/-- R63, R64, R114, R134, R140 to R142: an attempt ends in a collision. The collision counter rises. An expired report is
withdrawn, STALE; a notice with a follow-on is replaced by it; any other frame stays with one more attempt, and at its eighth
is given up, with COLLISION_LIMIT and TX_FAILURE, its Window Report DISCARDED, or its QUIET notice ended. Then the current
frame is chosen again. A HELD parser, which has heard none of the attempt, goes to WAIT_GAP. Which read-back admits the event
is deduced (log entry 12), as are the gap timer and the character at the attempt's end (log entry 19). Where no octet has yet
differed, the next one does and is read back first, in EXTERNAL mode to the parser as any other, its value and stop bit being
free (log entry 33): the model's choices, as is the attempt's standing in SENDING between an octet that differed and this row
(log entry 35). Where the grace expiry of a PENDING report has been issued in the same moment, an eighth collision leaves the
report waiting for it, to be withdrawn as STALE (R64); that nothing is given up then is deduced (log entry 34). -/
def Obligations.AttemptCollides : Prop :=
  ∀ s : State, s.rstnHigh = true → LineQueueOk s → ReceiverOk s → s.transmitter.state = .sending →
    s.transmitter.testMode ≠ .internal →
    (s.transmitter.readBack = .differed ∨
      ∃ n, s.transmitter.readBack = .matched n ∧ n < s.transmitter.currentFrame.length) →
    let x := s.transmitter
    let settled (status : ReportStatus) : ReportStatus := if status = .pending then .discarded else status
    let awaited (content : ReportContent) : Prop :=
      (∃ r, content = .windowReport r) ∧ s.timebase.due.graceExpiry = true ∧
        ∃ e, s.windows.graceEntry = some e ∧ e.reportStatus = .pending
    (x.testMode = .external → x.readBack ≠ .differed → ∃ (o : Octet) (b : Bool) (t u : State),
      exec (.lineOctetReceived o b) s = .next t ∧ t.transmitter.readBack = .differed ∧
      exec .txCollision t = .next u ∧ exec .txCollision s = .next { u with freeCount := s.freeCount + 1 }) ∧
    (x.testMode = .off ∨ x.readBack = .differed →
     ∃ (y : Transmitter) (w : WindowTable) (st : StationState) (u : CauseUnit) (atSpace : Bool) (drawn : Nat),
      exec .txCollision s = .next
        { s with
          transmitter := y, windows := w, station := { s.station with state := st }, causes := u, freeCount := drawn
          receiver :=
            { s.receiver with
              parser := if x.testMode = .off then .waitGap else s.receiver.parser
              gapTimer := 0, charInProgress := false, lrxAtSpace := atSpace } } ∧
      (x.readBack = .differed → atSpace = s.receiver.lrxAtSpace ∧ drawn = s.freeCount) ∧
      (∀ c, c ≠ .txFailure → flagOf u.pending c = flagOf s.causes.pending c) ∧ u.enables = s.causes.enables ∧
      u.master = s.causes.master ∧ u.mode = s.causes.mode ∧
      y.collisions = min 65535 (x.collisions + 1) ∧ y.framesSent = x.framesSent ∧ y.testMode = x.testMode ∧
      y.testSequence = x.testSequence ∧
      (y.report.isSome = true → y.state = .waitIdle ∧ y.current = some .report) ∧
      (y.report = none → y.notice.isSome = true → y.state = .waitIdle ∧ y.current = some .notice) ∧
      (y.report = none → y.notice = none → y.state = .idle ∧ y.current = none) ∧
      (x.current = some .report → ∀ f, x.report = some f → y.notice = x.notice ∧ st = s.station.state ∧
        (f.expired = true →
          y.report = none ∧ y.lastFailure = .stale ∧ y.giveUps = x.giveUps ∧ flagOf u.pending .txFailure = true ∧
          w = { s.windows with
                closedReport := s.windows.closedReport.map fun c =>
                  { c with status := if c.status = .pending then .stale else c.status } }) ∧
        (f.expired = false → f.attempts < 7 →
          y.report = some { f with attempts := f.attempts + 1 } ∧ y.lastFailure = x.lastFailure ∧
          y.giveUps = x.giveUps ∧ w = s.windows ∧ u = s.causes) ∧
        (f.expired = false → 7 ≤ f.attempts → awaited f.content →
          y.report = some { f with attempts := 8 } ∧ y.lastFailure = x.lastFailure ∧
          y.giveUps = x.giveUps ∧ w = s.windows ∧ u = s.causes) ∧
        (f.expired = false → 7 ≤ f.attempts → ¬awaited f.content →
          y.report = none ∧ y.lastFailure = .collisionLimit ∧ y.giveUps = min 65535 (x.giveUps + 1) ∧
          flagOf u.pending .txFailure = true ∧
          (∀ n, f.content = .lineTest n → w = s.windows) ∧
          (∀ r, f.content = .windowReport r →
            w = { s.windows with
                  graceEntry := s.windows.graceEntry.map fun e =>
                    { e with reportStatus := settled e.reportStatus } }))) ∧
      (x.current = some .notice → ∀ f, x.notice = some f → y.report = x.report ∧ w = s.windows ∧
        (∀ a, x.followOn = some a →
          y.followOn = none ∧ y.giveUps = x.giveUps ∧ u = s.causes ∧ st = s.station.state ∧
          ∃ n, y.notice = some n ∧ n.notice.announced = a ∧ n.attempts = 0) ∧
        (x.followOn = none → f.attempts < 7 →
          y.notice = some { f with attempts := f.attempts + 1 } ∧ y.giveUps = x.giveUps ∧ u = s.causes ∧
          st = s.station.state) ∧
        (x.followOn = none → 7 ≤ f.attempts →
          y.notice = none ∧ y.lastFailure = .collisionLimit ∧ y.giveUps = min 65535 (x.giveUps + 1) ∧
          flagOf u.pending .txFailure = true ∧
          st = if f.notice.announced = .quiet ∧ s.station.state = .quieting then .quiet else s.station.state)))

/-- R58, R63, R114, R124, R134, R140, R142, R170: an attempt of a commissioned station ends in success. Frames-sent rises and the frame leaves its
slot: a Window Report turns its PENDING status SENT, in GRACE or, if expired, in the closed report; a notice gives way to
its follow-on, and one announcing QUIET makes a QUIETING station QUIET. A HELD parser goes to WAIT_GAP, having heard none of
the attempt. In a line-test mode the Line Test leaves its slot and the transmitter becomes IDLE; its octets have passed to
the parser, so that from READY the whole frame stands there, and FRAME_RECEIVED counts it as an echo with its sequence number.
That the octets not yet read back are read back as sent is deduced (log entry 12), as are the gap timer and the character at
the attempt's end (log entry 19). -/
def Obligations.AttemptSucceeds : Prop :=
  ∀ s : State, s.rstnHigh = true → LineQueueOk s → s.transmitter.state = .sending →
    s.transmitter.readBack ≠ .differed →
    let x := s.transmitter
    let sent (status : ReportStatus) : ReportStatus := if status = .pending then .sent else status
    (x.testMode = .off → ∃ (y : Transmitter) (w : WindowTable) (st : StationState),
      exec .txSuccess s = .next
        { s with
          transmitter := y, windows := w, station := { s.station with state := st }
          receiver :=
            { s.receiver with
              parser := if s.receiver.parser = .held then .waitGap else s.receiver.parser
              gapTimer := 0, charInProgress := false, lrxAtSpace := false } } ∧
      y.framesSent = min 65535 (x.framesSent + 1) ∧ y.collisions = x.collisions ∧ y.giveUps = x.giveUps ∧
      y.lastFailure = x.lastFailure ∧ y.state ≠ .sending ∧
      (x.current = some .report → ∀ f, x.report = some f →
        y.report = none ∧ y.notice = x.notice ∧ st = s.station.state ∧
        (∀ r, f.content = .windowReport r → f.expired = false →
          w = { s.windows with
                graceEntry := s.windows.graceEntry.map fun e => { e with reportStatus := sent e.reportStatus } }) ∧
        (∀ r, f.content = .windowReport r → f.expired = true →
          w = { s.windows with
                closedReport := s.windows.closedReport.map fun c => { c with status := sent c.status } }) ∧
        (∀ n, f.content = .lineTest n → w = s.windows)) ∧
      (x.current = some .notice → ∀ f, x.notice = some f →
        y.report = x.report ∧ w = s.windows ∧ y.followOn = none ∧
        (x.followOn = none → y.notice = none) ∧
        (∀ a, x.followOn = some a → ∃ n, y.notice = some n ∧ n.notice.announced = a ∧ n.attempts = 0) ∧
        st = if f.notice.announced = .quiet ∧ s.station.state = .quieting then .quiet else s.station.state)) ∧
    (x.testMode ≠ .off → s.station.state = .unconfigured → x.current = some .report → ∃ t,
      exec .txSuccess s = .next t ∧ t.transmitter.report = none ∧ t.transmitter.state = .idle ∧
      t.transmitter.framesSent = min 65535 (x.framesSent + 1) ∧ t.transmitter.lastFailure = x.lastFailure ∧
      t.windows = s.windows ∧ t.causes = s.causes ∧ t.station = s.station ∧
      (s.receiver.parser = .ready → x.readBack = .matched 0 → ∀ f n, x.report = some f → f.content = .lineTest n →
        t.receiver.parser = .inFrame ∧ t.receiver.frame = frameOctets 0x3F (lineTestPayload n) ∧
        t.receiver.arrivalSecond = s.timebase.secondOfDay ∧ t.receiver.errors = s.receiver.errors ∧
        exec .frameReceived t = .next
          { t with
            receiver :=
              { t.receiver with
                parser := .afterFrame, frame := []
                testEchoes := min 65535 (s.receiver.testEchoes + 1), lastEcho := some (n % 65536) } }))

/-- R143, R144: with a frame waiting in WAIT_IDLE, the receiver on and the line outside the part, the stuck timer reaching 2 s
reports the current frame once: LINE_STUCK, TX_FAILURE, and its stuck-reported mark; a frame already reported raises
nothing. Anywhere else the event is no occurrence. CLEAR FAILURE sets the last transmit failure to NONE and changes
nothing else. -/
def Obligations.StuckLineAndClearFailure : Prop :=
  ∀ s : State,
    let x := s.transmitter
    let canStick := x.state = .waitIdle ∧ s.receiverOn = true ∧ x.testMode ≠ .internal
    (s.portOpen →
      exec .clearFailure s = .next ({ s with transmitter := { x with lastFailure := .noFailure } }.answered .ok [])) ∧
    (s.rstnHigh = true → ¬canStick → exec .lineStuck s = .next s) ∧
    (s.rstnHigh = true → canStick → x.current = some .report → ∀ f, x.report = some f →
      (f.stuckReported = true → exec .lineStuck s = .next { s with transmitter := { x with stuckTimer := 15360 } }) ∧
      (f.stuckReported = false → ∃ u : CauseUnit,
        exec .lineStuck s = .next
          { s with
            transmitter :=
              { x with
                stuckTimer := 15360, lastFailure := .lineStuck, report := some { f with stuckReported := true } }
            causes := u } ∧
        ∀ c, flagOf u.pending c = (decide (c = .txFailure) || flagOf s.causes.pending c))) ∧
    (s.rstnHigh = true → canStick → x.current = some .notice → ∀ f, x.notice = some f →
      (f.stuckReported = true → exec .lineStuck s = .next { s with transmitter := { x with stuckTimer := 15360 } }) ∧
      (f.stuckReported = false → ∃ u : CauseUnit,
        exec .lineStuck s = .next
          { s with
            transmitter :=
              { x with
                stuckTimer := 15360, lastFailure := .lineStuck, notice := some { f with stuckReported := true } }
            causes := u } ∧
        ∀ c, flagOf u.pending c = (decide (c = .txFailure) || flagOf s.causes.pending c)))

/-- R45, R110, R131, R147: RESTART LINE on a commissioned station empties the queue, returns the transmitter's fields but the
line-test mode and sequence to their reset values, clears the receiver's error, ignored and incompatible counters and its
frame, turns a PENDING status DISCARDED in GRACE and in the closed report, and makes a QUIETING station QUIET. In
UNCONFIGURED it is NOT_NOW. That a character in progress is dropped is the model's choice (log entry 31). -/
def Obligations.RestartLine : Prop :=
  ∀ s : State, s.portOpen →
    let discarded (status : ReportStatus) : ReportStatus := if status = .pending then .discarded else status
    (s.station.state = .unconfigured → exec .restartLine s = .next (s.answered .notNow [])) ∧
    (s.station.state ≠ .unconfigured →
      exec .restartLine s = .next
        ({ s with
            station :=
              { s.station with state := if s.station.state = StationState.quieting then .quiet else s.station.state }
            windows :=
              { s.windows with
                graceEntry := s.windows.graceEntry.map fun (e : WindowEntry) =>
                  { e with reportStatus := discarded e.reportStatus }
                closedReport :=
                  s.windows.closedReport.map fun (c : ClosedReport) => { c with status := discarded c.status } }
            transmitter :=
              { state := .idle, report := none, notice := none, followOn := none, current := none, backoffSlots := 0
                stuckTimer := 0, lastFailure := .noFailure, framesSent := 0, collisions := 0, giveUps := 0
                testMode := s.transmitter.testMode, testSequence := s.transmitter.testSequence
                readBack := .matched 0 }
            receiver :=
              { s.receiver with
                parser := if s.receiverOn then .waitGap else .off
                gapTimer := 0, frame := [], charInProgress := false, errors := ⟨0, 0, 0, 0⟩, ignored := 0
                incompatible := 0 } }.answered .ok []))

/-- R113, R124, R137, R148, R149: LINE TEST MODE and SEND TEST in UNCONFIGURED. A mode octet above 2 is BAD_VALUE; the mode already set
changes nothing; another mode drops any Line Test, leaves the transmitter IDLE and turns the receiver on, off or to its new
source; that it drops a character in progress is the model's choice (log entry 31). SEND TEST with a mode other than OFF and
an empty report slot queues a Line Test with the sequence counter's value, and the counter rises modulo 65536; the frame goes
to WAIT_IDLE, or on an idle line at once to BACKOFF with k = s mod 8 slots; otherwise it is NOT_NOW and changes nothing. That
the backoff slots stand at 0 outside BACKOFF is the model's choice (log entry 17). -/
def Obligations.LineTestCommands : Prop :=
  ∀ (s : State) (mode : Octet) (m : LineTestMode), s.portOpen → s.station.state = .unconfigured → LineQueueOk s →
    let x := s.transmitter
    (2 < mode.toNat → exec (.lineTestMode mode) s = .next (s.answered .badValue [])) ∧
    ((mode = 0x00 ∧ m = .off ∨ mode = 0x01 ∧ m = .internal ∨ mode = 0x02 ∧ m = .external) →
      (m = x.testMode → exec (.lineTestMode mode) s = .next (s.answered .ok [])) ∧
      (m ≠ x.testMode →
        exec (.lineTestMode mode) s = .next
          ({ s with
              transmitter :=
                { x with
                  state := .idle, report := none, current := none, backoffSlots := 0, stuckTimer := 0
                  readBack := .matched 0, testMode := m }
              receiver :=
                { s.receiver with
                  parser := if s.station.supplyMode = SupplyMode.mains ∧ m ≠ LineTestMode.off then .waitGap else .off
                  gapTimer := 0, frame := [], charInProgress := false } }.answered .ok []))) ∧
    (x.testMode = .off ∨ x.report.isSome = true → exec .sendTest s = .next (s.answered .notNow [])) ∧
    (x.testMode ≠ .off → x.report = none → ∃ y : Transmitter,
      exec .sendTest s = .next ({ s with transmitter := y }.answered .ok []) ∧
      y = { x with
            state := y.state, current := some .report, backoffSlots := y.backoffSlots, stuckTimer := 0
            testSequence := (x.testSequence + 1) % 65536
            report :=
              some
                { content := .lineTest x.testSequence, attempts := 0, expired := false, stuckReported := false
                  seed := if s.timebase.clockValid then s.timebase.secondOfDay % 256 else 0 } } ∧
      (s.receiver.gapTimer = 4 → y.state = .backoff ∧
        y.backoffSlots = (if s.timebase.clockValid then s.timebase.secondOfDay % 256 else 0) % 8) ∧
      (s.receiver.gapTimer ≠ 4 → y.state = .waitIdle ∧ y.backoffSlots = 0))

/-! ### The Station Controller -/

/-- R1, R2, R26, R44, R90, R113, R129, R134, R166, R167: COMMISSION in UNCONFIGURED with a valid clock, an address, a role and a
window length brings every block into service, in JOINING, with the settings digest over the clamped grace; on mains the
JOINING notice waits in its slot, in BACKUP it is dropped. With any of those missing it is INCOMPLETE and changes nothing.
Calendar, queue, peers and Cause Unit stay as they are. The model's choices: a character in progress is dropped (log entry
31); the backoff slots and the notice's unfilled second-of-day stand at 0 (log entry 17). That all of it is one step is
deduced (log entry 29). -/
def Obligations.CommissionEntersService : Prop :=
  ∀ s : State, s.portOpen → s.station.state = .unconfigured →
    let b := s.timebase
    (b.clockValid = false ∨ s.items.stationAddress = none ∨ s.items.role = none ∨ s.items.windowLength = none →
      exec .commission s = .next (s.answered .incomplete [])) ∧
    (∀ (address : Nat) (role : Role) (l : WindowLength), b.clockValid = true →
      s.items.stationAddress = some address → s.items.role = some role → s.items.windowLength = some l →
      let seconds := l.minutes * 60
      let windows := 1440 / l.minutes
      let index := (b.day * windows + b.secondOfDay / seconds) % (65536 * windows)
      let grace := min s.items.grace (seconds / 2)
      let heat := decide (s.items.circuits ≠ .cool)
      let cool := decide (s.items.circuits ≠ .heat)
      let digest :=
        (crc16
          (octets 1 l.minutes ++ octets 2 grace ++ octets 1 s.calendar.epochWeekday
            ++ octets 1 s.calendar.holidays.length ++ s.calendar.holidays.flatMap (octets 2)
            ++ ([0, 1, 2, 3, 4, 5].flatMap fun n => octets 2 (s.calendar.weekday.item n).toNat)
            ++ ([0, 1, 2, 3, 4, 5].flatMap fun n => octets 2 (s.calendar.weekend.item n).toNat))).toNat
      let part (present : Bool) : OwnPart :=
        { energy := 0, metered := 0, unmetered := 0, demand := 0
          flags :=
            { estimated := false, faulted := false, backup := false, partialWindow := present, overrange := false } }
      let entry (n : Nat) (own : PerPlant OwnPart) : WindowEntry :=
        { index := n, own := own, reverseCount := 0, reportStatus := .undecided, contributors := [], weightSum := 0
          sums := ⟨⟨0, 0, 0⟩, ⟨0, 0, 0⟩⟩, estimatedContributors := 0 }
      let meter (old : CircuitMeter) (present : Bool) : CircuitMeter :=
        { state := if present then .normal else .absent, heldSupply := 0, heldReturn := 0, supplyValid := false
          returnValid := false, holdCount := 0, goodRun := 0, residue := 0, pulseCounter := 0, latched := 0
          lifetimeEnergy := old.lifetimeEnergy, lifetimeVolume := old.lifetimeVolume }
      let mains := s.station.supplyMode = SupplyMode.mains
      let notice : NoticeSlot :=
        { notice :=
            { sender := address, roleCode := match role with | .tenant => 0x01 | .common => 0x02
              announced := .joining, weight := match role with | .tenant => s.items.weight | .common => 0
              digest := digest, expected := s.items.expected, second := 0 }
          attempts := 0, seed := b.secondOfDay % 256, stuckReported := false }
      exec .commission s = .next
        ({ s with
            items := { s.items with grace := grace }
            timebase :=
              { b with
                windowInDay := b.secondOfDay / seconds, secondsInWindow := b.secondOfDay % seconds
                cyclePhase := b.secondOfDay % 2, graceArmed := false, boundaryOn := true }
            station :=
              { s.station with state := .joining, commissioned := true, digest := digest, skew := .noSkew }
            windows :=
              { graceEntry := none, openEntry := some (entry index ⟨part heat, part cool⟩)
                aheadEntry := some (entry ((index + 1) % (65536 * windows)) ⟨part false, part false⟩)
                closedReport := none }
            contexts :=
              { closing := none
                current :=
                  some
                    { day := b.day, partialDay := true, saturated := false, rxSnapshot := none
                      figures :=
                        { energy := ⟨⟨0, 0, 0, 0⟩, ⟨0, 0, 0, 0⟩⟩, commonShare := ⟨⟨0, 0, 0, 0⟩, ⟨0, 0, 0, 0⟩⟩
                          complexEnergy := ⟨0, 0⟩, peak := ⟨none, none⟩, unmetered := 0, reverseCount := 0
                          counts := ⟨0, 0, 0, 0, 0, 0, 0, 0, 0⟩, dispositions := ⟨0, 0, 0⟩, addressClashes := 0 } } }
            meters := ⟨meter s.meters.heat heat, meter s.meters.cool cool⟩
            converter := { s.converter with state := .restarting, restartCount := 1, backupCount := 0 }
            receiver :=
              { s.receiver with
                parser := if mains then .waitGap else .off, gapTimer := 0, frame := [], charInProgress := false }
            transmitter :=
              { s.transmitter with
                state := if mains then .waitIdle else .idle
                report := none
                notice := if mains then some notice else s.transmitter.notice
                current := if mains then some .notice else none
                backoffSlots := 0, stuckTimer := 0, readBack := .matched 0, testMode := .off
                lastFailure := if mains then s.transmitter.lastFailure else .abortedBySupply } }.answered .ok []))

/-- R134, R146, R164, R169 to R171: QUIET in RUNNING and QUIETING makes the station QUIETING and requests a QUIET notice; SPEAK in
QUIETING and QUIET makes it RUNNING and requests a RUNNING notice. On mains the notice enters its slot, or is recorded as
the follow-on while a notice is in transmission, and leaves the report slot as it is; with no report ahead of it the notice is
current, in WAIT_IDLE, or on an idle line at once in BACKOFF with k = (5 × A + s) mod 8 slots (R137); that a waiting notice
already current in BACKOFF starts again so when it is replaced is deduced (log entry 16); in BACKUP and RECOVERING it is dropped with ABORTED_BY_SUPPLY, and QUIET
then leaves the station QUIET at once. QUIET in QUIET, and SPEAK in JOINING and RUNNING, are OK and change nothing; QUIET
in UNCONFIGURED and JOINING, and SPEAK in UNCONFIGURED, are NOT_NOW and change nothing. -/
def Obligations.QuietAndSpeak : Prop :=
  ∀ s : State, s.portOpen → LineQueueOk s →
    let x := s.transmitter
    let requests (command : Instr) (entered : StationState) (announced : NoticeState) : Prop :=
      (s.station.supplyMode ≠ .mains →
        exec command s = .next
          ({ s with
              station := { s.station with state := if announced = NoticeState.quiet then .quiet else entered }
              transmitter := { x with lastFailure := .abortedBySupply } }.answered .ok [])) ∧
      (s.station.supplyMode = .mains → x.state = .sending → x.current = some .notice →
        exec command s = .next
          ({ s with
              station := { s.station with state := entered }
              transmitter := { x with followOn := some announced } }.answered .ok [])) ∧
      (s.station.supplyMode = .mains → ¬(x.state = .sending ∧ x.current = some .notice) →
        ∃ (y : Transmitter) (u : CauseUnit) (n : NoticeSlot),
          exec command s = .next
            ({ s with station := { s.station with state := entered }, transmitter := y, causes := u }.answered .ok []) ∧
          y.notice = some n ∧ n.notice.announced = announced ∧ n.attempts = 0 ∧
          n.seed = (if s.timebase.clockValid then s.timebase.secondOfDay % 256 else 0) ∧
          n.notice.digest = s.station.digest ∧ n.notice.expected = s.items.expected ∧
          n.notice.sender = s.items.stationAddress.getD 0 ∧
          n.notice.weight = (if s.items.role = some .common then 0 else s.items.weight) ∧
          y.report = x.report ∧ y.followOn = x.followOn ∧ y.framesSent = x.framesSent ∧
          y.collisions = x.collisions ∧ y.giveUps = x.giveUps ∧ y.testMode = x.testMode ∧
          y.testSequence = x.testSequence ∧ (x.state = .sending → y.state = .sending ∧ y.current = x.current) ∧
          (x.state ≠ .sending → x.report ≠ none →
            y.current = some .report ∧ y.state = x.state ∧ y.backoffSlots = x.backoffSlots) ∧
          (x.state ≠ .sending → x.report = none → y.current = some .notice ∧
            (s.receiver.gapTimer ≠ 4 → y.state = .waitIdle) ∧
            (s.receiver.gapTimer = 4 → y.state = .backoff ∧
              y.backoffSlots = (5 * s.items.stationAddress.getD 0 + n.seed) % 8)) ∧
          (x.stuckTimer < 15360 → u = s.causes ∧ y.lastFailure = x.lastFailure ∧ n.stuckReported = false) ∧
          (∀ c, c ≠ .txFailure → flagOf u.pending c = flagOf s.causes.pending c) ∧ u.enables = s.causes.enables ∧
          u.master = s.causes.master ∧ u.mode = s.causes.mode)
    (s.station.state = .unconfigured ∨ s.station.state = .joining → exec .quiet s = .next (s.answered .notNow [])) ∧
    (s.station.state = .unconfigured → exec .speak s = .next (s.answered .notNow [])) ∧
    (s.station.state = .running ∨ s.station.state = .quieting → requests .quiet .quieting .quiet) ∧
    (s.station.state = .quieting ∨ s.station.state = .quiet → requests .speak .running .running) ∧
    (s.station.state = .quiet → exec .quiet s = .next (s.answered .ok [])) ∧
    (s.station.state = .joining ∨ s.station.state = .running → exec .speak s = .next (s.answered .ok []))

/-- R22, R45, R90, R100, R105, R110, R131, R152, R164, R177, R179 to R181, R186: RESET, RSTN falling and RSTN rising leave every
block at its full-reset value, written out here block by block; the supply mode is the one PFAILN gives, a transaction in
progress ends without a response, and the pins stay as they are driven; LRX is taken to rest at mark until a row tells
otherwise, which is the model's choice (log entry 32), as are the values of the model's own fields (log entry 8). -/
def Obligations.FullReset : Prop :=
  ∀ s : State,
    let item (n : BitVec 16) : SlotMap := ⟨n, n, n, n, n, n⟩
    let meter : CircuitMeter := ⟨.absent, 0, 0, false, false, 0, 0, 0, 0, 0, 0, 0⟩
    let reset (rstn : Bool) : State :=
      { rstnHigh := rstn, pfailnHigh := s.pfailnHigh
        port := ⟨if s.port.phase = .idle then .idle else .ignored, []⟩
        station := ⟨.unconfigured, false, if s.pfailnHigh then .mains else .backup, 0, 0, .noSkew⟩
        items :=
          { stationAddress := none, role := none, expected := 1, weight := 0, circuits := .both, pulse := ⟨100, 100⟩
            dtCutoff := 20, windowLength := none, grace := 120, lineRate := .b19200, skewLimit := 10
            queueAlertLevel := 2, rate := ⟨⟨0, 0, 0, 0⟩, ⟨0, 0, 0, 0⟩⟩ }
        calendar := ⟨item 0, item 0, 0, []⟩
        timebase :=
          { clockValid := false, secondOfDay := 0, day := 0, secondFraction := 0, secondLength := .nominal
            cyclePhase := 0, secondsInWindow := 0, windowInDay := 0, graceArmed := false, slewRemaining := 0
            slewCount := 0, boundaryOn := false, due := ⟨false, false, false, false, false⟩ }
        meters := ⟨meter, meter⟩
        converter := ⟨.running, 0, 0, ⟨0, .noReading⟩, ⟨0, .noReading⟩, ⟨0, .noReading⟩, ⟨0, .noReading⟩⟩
        windows := ⟨none, none, none, none⟩, contexts := ⟨none, none⟩, records := ⟨[], none, 0⟩
        receiver := ⟨.off, 0, [], 0, ⟨0, 0, 0, 0⟩, 0, 0, 0, 0, none, false, false⟩
        transmitter := ⟨.idle, none, none, none, none, 0, 0, .noFailure, 0, 0, 0, .off, 0, .matched 0⟩
        peers := [], causes := ⟨0, 0, false, .level, false⟩, freeCount := s.freeCount, pending := s.pending }
    (s.portOpen → exec .reset s = .next (reset true)) ∧
    (s.rstnHigh = true → exec .rstnFalling s = .next (reset false)) ∧
    (s.rstnHigh = false → exec .rstnRising s = .next (reset true)) ∧
    (s.rstnHigh = false → exec .rstnFalling s = .next s) ∧ (s.rstnHigh = true → exec .rstnRising s = .next s)

/-- R8, R63, R113, R145, R170, R173, R174: the supply mode. PFAILN falling in MAINS or RECOVERING enters BACKUP: the receiver
turns off, the attempt ends uncounted, a Window Report that has not expired stays queued and every other frame is dropped
with ABORTED_BY_SUPPLY, a dropped QUIET notice makes a QUIETING station QUIET, and SUPPLY_CHANGE is raised. PFAILN rising
in BACKUP leads to RECOVERING with recovery count 2, or in UNCONFIGURED straight to MAINS. RECOVERY_END leads to MAINS,
the receiver turning on in WAIT_GAP, and raises SUPPLY_CHANGE. The model's choices: a character in progress is dropped (log
entry 31), and RECOVERY_END is a row of its own, which acts in RECOVERING with recovery count 0 and is no occurrence anywhere
else, where R173 returns to MAINS at the cycle event that reaches 0 (log entry 21). -/
def Obligations.SupplyModes : Prop :=
  ∀ s : State, s.rstnHigh = true →
    let x := s.transmitter
    let keeps : Option ReportSlot :=
      match x.report with
      | some f => (match f.content with | .windowReport _ => if f.expired then none else some f | .lineTest _ => none)
      | none => none
    let queued := x.report.isSome = true ∨ x.notice.isSome = true
    let quietDropped := x.followOn = some .quiet ∨ ∃ f, x.notice = some f ∧ f.notice.announced = .quiet
    let raises (u : CauseUnit) : Prop :=
      (∀ c, flagOf u.pending c = (decide (c = .supplyChange) || flagOf s.causes.pending c)) ∧
        u.enables = s.causes.enables ∧ u.master = s.causes.master ∧ u.mode = s.causes.mode
    let onMains (e : Instr) (pin : Bool) (backupCount : Nat) : Prop := ∃ u : CauseUnit, raises u ∧
      let on := s.station.state ≠ .unconfigured ∨ x.testMode ≠ .off
      exec e s = .next
        { s with
          pfailnHigh := pin, station := { s.station with supplyMode := .mains, recoveryCount := 0 }
          converter := { s.converter with backupCount := backupCount }
          receiver :=
            { s.receiver with
              parser := if on then .waitGap else .off, gapTimer := 0, frame := [], charInProgress := false }
          transmitter := { x with stuckTimer := if on then 0 else x.stuckTimer }, causes := u }
    (s.pfailnHigh = true → s.station.supplyMode ≠ .backup →
      ∃ (y : Transmitter) (w : WindowTable) (st : StationState) (u : CauseUnit), raises u ∧
        exec .pfailnFalling s = .next
          { s with
            pfailnHigh := false
            station := { s.station with state := st, supplyMode := .backup, recoveryCount := 0 }
            converter := { s.converter with backupCount := 0 }
            receiver := { s.receiver with parser := .off, gapTimer := 0, frame := [], charInProgress := false }
            transmitter := y, windows := w, causes := u } ∧
        y.report = keeps ∧ y.notice = none ∧ y.followOn = none ∧ y.collisions = x.collisions ∧
        y.framesSent = x.framesSent ∧ y.giveUps = x.giveUps ∧ y.testMode = x.testMode ∧
        (keeps ≠ none → y.state = .waitIdle ∧ y.current = some .report) ∧
        (keeps = none → y.state = .idle ∧ y.current = none) ∧
        (queued → y.lastFailure = .abortedBySupply) ∧ (¬queued → y.lastFailure = x.lastFailure) ∧
        (quietDropped → s.station.state = .quieting → st = .quiet) ∧
        (¬quietDropped ∨ s.station.state ≠ .quieting → st = s.station.state) ∧
        ((∃ f, x.report = some f ∧ f.expired = true) →
          w = { s.windows with
                closedReport := s.windows.closedReport.map fun c =>
                  { c with status := if c.status = .pending then .stale else c.status } }) ∧
        ((∀ f, x.report = some f → f.expired = false) → w = s.windows)) ∧
    (s.pfailnHigh = false → s.station.supplyMode = .backup → s.station.state ≠ .unconfigured →
      exec .pfailnRising s = .next
        { s with
          pfailnHigh := true, station := { s.station with supplyMode := .recovering, recoveryCount := 2 }
          converter := { s.converter with backupCount := 0 } }) ∧
    (s.pfailnHigh = false → s.station.supplyMode = .backup → s.station.state = .unconfigured →
      onMains .pfailnRising true 0) ∧
    (s.station.supplyMode = .recovering → s.station.recoveryCount = 0 →
      onMains .recoveryEnd s.pfailnHigh s.converter.backupCount) ∧
    (¬(s.station.supplyMode = .recovering ∧ s.station.recoveryCount = 0) → exec .recoveryEnd s = .next s)

/-! ### The Cause Unit -/

/-- R187 to R191: READ CAUSE answers OK with the lowest number of a set flag and the flags as they stand after the read, which
clears that flag alone, and 0 where none is set. SET ENABLES replaces the twelve controls at once, BAD_VALUE and no change
for an interrupt mode above 1, and ends a pulse unless PULSE mode goes on with the master enable on. Raising a cause sets its flag
alone, and starts a pulse in PULSE mode where the flag was clear and its enable and the master enable are on; IRQN follows the
flags and enables in LEVEL mode and the pulse in PULSE mode. -/
def Obligations.CauseUnitRules : Prop :=
  ∀ s : State,
    let u := s.causes
    (s.portOpen → u.pending = 0#10 → exec .readCause s = .next (s.answered .ok [0x00, 0x00, 0x00])) ∧
    (s.portOpen → ∀ n : Nat, n < 10 → u.pending.getLsbD n = true → (∀ k, k < n → u.pending.getLsbD k = false) →
      ∃ left : BitVec 10,
        exec .readCause s = .next
          ({ s with causes := { u with pending := left } }.answered .ok
            [BitVec.ofNat 8 (n + 1), BitVec.ofNat 8 (left.toNat / 256), BitVec.ofNat 8 left.toNat]) ∧
        ∀ k, k < 10 → left.getLsbD k = (decide (k ≠ n) && u.pending.getLsbD k)) ∧
    (s.portOpen → ∀ (enables : BitVec 16) (master mode : Octet),
      (1 < mode.toNat → exec (.setEnables enables master mode) s = .next (s.answered .badValue [])) ∧
      (mode.toNat ≤ 1 →
        exec (.setEnables enables master mode) s = .next
          ({ s with
              causes :=
                { pending := u.pending, enables := BitVec.ofNat 10 enables.toNat, master := decide (master ≠ 0x00)
                  mode := if mode = 0x00 then .level else .pulse
                  pulse := u.pulse && decide (u.mode = IrqMode.pulse ∧ mode = 0x01 ∧ master ≠ 0x00) } }.answered .ok []))) ∧
    (s.rstnHigh = true → exec .irqnPulseEnd s = .next { s with causes := { u with pulse := false } }) ∧
    (∀ c x : Cause,
      flagOf (u.raise c).pending x = (decide (x = c) || flagOf u.pending x) ∧
      (u.raise c).pulse =
        (u.pulse || decide (u.mode = .pulse ∧ u.master = true ∧ flagOf u.enables c = true ∧ flagOf u.pending c = false))) ∧
    (u.mode = .level →
      (s.irqnAsserted = true ↔ u.master = true ∧ ∃ c, flagOf u.pending c = true ∧ flagOf u.enables c = true)) ∧
    (u.mode = .pulse → s.irqnAsserted = u.pulse)

/-! ### Rules of the whole machine -/

/-- R168, R177, R185, R188: no command but a full reset returns a commissioned station to UNCONFIGURED, and none changes an item, the
calendar or the settings digest of one; a pending cause is cleared by READ CAUSE and a full reset only; the lifetime registers
change at a cycle event and a full reset only. -/
def Obligations.OnlyTheseCommands : Prop :=
  ∀ (c : Instr) (s t : State), exec c s = .next t → c ≠ .reset → c ≠ .rstnFalling → c ≠ .rstnRising →
    (s.station.state ≠ .unconfigured →
      t.station.state ≠ .unconfigured ∧ t.items = s.items ∧ t.calendar = s.calendar ∧
      t.station.digest = s.station.digest ∧ t.station.commissioned = s.station.commissioned) ∧
    (c ≠ .readCause → ∀ x, flagOf s.causes.pending x = true → flagOf t.causes.pending x = true) ∧
    ((∀ hs hr cs cr, c ≠ .cycleEvent hs hr cs cr) → ∀ p,
      (t.meters.get p).lifetimeEnergy = (s.meters.get p).lifetimeEnergy ∧
      (t.meters.get p).lifetimeVolume = (s.meters.get p).lifetimeVolume)

/-! ### What every step keeps -/

/-- R179: from every state in which RSTN low holds the station at its full-reset values, a step leads to such a state. -/
def Obligations.StepKeepsHeldAtReset : Prop :=
  ∀ s t : State, HeldAtReset s → step s = .next t → HeldAtReset t

/-- R26, R90, R131, R164, R166, R173: every step keeps the relations of station state, supply mode and line-test mode. -/
def Obligations.StepKeepsStation : Prop :=
  ∀ s t : State, HeldAtReset s → StationOk s → step s = .next t → StationOk t

/-- R22 to R34: every step keeps the Timebase's ranges and the relation of the time of day to window and cycle. -/
def Obligations.StepKeepsClock : Prop :=
  ∀ s t : State, HeldAtReset s → StationOk s → ClockOk s → step s = .next t → ClockOk t

/-- R40 to R45, R152: every step keeps the order of the three window places and their statuses, the Peer Table and the
contributor sets, which the model keeps in ascending address (its choice, log entry 27). -/
def Obligations.StepKeepsWindowsAndPeers : Prop :=
  ∀ s t : State, HeldAtReset s → StationOk s → ClockOk s → WindowsOk s → PeersOk s → step s = .next t →
    WindowsOk t ∧ PeersOk t

/-- R37, R55, R76, R97, R100 to R105, R110, R131, R151, R177, R191: every step keeps the items and the calendar in their
ranges, the level of the Record Queue at most 8 with the overflow slot in use beside a full queue only, and a pulse in PULSE
mode with the master enable on only. It keeps within their widths the saturating fields of the Period Contexts and of the
Settlement Records, the discarded-records counter, the eight counters of the Line Receiver, the three of the Line
Transmitter, and the missed count and the four disposition counts of every Peer Entry. -/
def Obligations.StepKeepsRanges : Prop :=
  ∀ s t : State, ItemsOk s → CausesOk s → QueueOk s → FieldsFit s → step s = .next t →
    ItemsOk t ∧ CausesOk t ∧ QueueOk t ∧ FieldsFit t


/-- R1, R2, R6, R8 to R13, R18: every step keeps the circuit meters and the converter in their states. -/
def Obligations.StepKeepsMetering : Prop :=
  ∀ s t : State, HeldAtReset s → MeteringOk s → step s = .next t → MeteringOk t

/-- R110 to R116, R131 to R147: every step keeps the receiver's parser on, off and held as the station's modes say, and the
transmitter's state, current frame and queue in agreement. That the backoff slots stand at 0 outside BACKOFF is the model's
choice (log entry 17); that a report at attempt count 8 waits for the grace expiry of its moment is deduced (log entry 34). -/
def Obligations.StepKeepsLine : Prop :=
  ∀ s t : State, HeldAtReset s → StationOk s → ReceiverOk s → LineQueueOk s → step s = .next t →
    ReceiverOk t ∧ LineQueueOk t

/-- The state after reset has everything that every step keeps. The levels of the pins and the model's own fields in it are the
model's choices (log entries 7 and 8). -/
def Obligations.ResetHasWhatStepsKeep : Prop :=
  HeldAtReset State.reset ∧ StationOk State.reset ∧ ClockOk State.reset ∧ ItemsOk State.reset ∧ CausesOk State.reset ∧
    WindowsOk State.reset ∧ PeersOk State.reset ∧ QueueOk State.reset ∧ FieldsFit State.reset ∧
    MeteringOk State.reset ∧ ReceiverOk State.reset ∧ LineQueueOk State.reset
end

