-- ==== Sys2Proof/Laws/Layouts.lean ====
section
/-! SUPPORT. Reading a field back from a layout: the length and the value of each part, and how an offset reaches past the
parts before it. -/

namespace Sys2Proof.Machine

@[simp] theorem octets_length (n v : Nat) : (octets n v).length = n := by
  induction n <;> simp_all [octets]

@[simp] theorem signedOctets_length (n : Nat) (v : Int) : (signedOctets n v).length = n := octets_length n _

@[simp] theorem zeros_length (n : Nat) : (zeros n).length = n := List.length_replicate

@[simp] theorem causeWord_length (f : BitVec 10) : (causeWord f).length = 2 := octets_length 2 _

theorem ofOctets_foldl (l : List Octet) (a : Nat) :
    l.foldl (fun a b => a * 256 + b.toNat) a = a * 256 ^ l.length + ofOctets l := by
  unfold ofOctets
  induction l generalizing a with
  | nil => simp
  | cons b l ih =>
    simp only [List.foldl_cons, List.length_cons]
    rw [ih, ih (0 * 256 + b.toNat)]
    ring

/-- Octets written with the most significant first spell the number modulo the width of the field. -/
@[simp] theorem ofOctets_octets (n v : Nat) : ofOctets (octets n v) = v % 256 ^ n := by
  induction n with
  | zero => simp [octets, ofOctets, Nat.mod_one]
  | succ n ih =>
    have h : ofOctets (octets (n + 1) v)
        = (0 * 256 + (BitVec.ofNat 8 (v / 256 ^ n)).toNat) * 256 ^ (octets n v).length + ofOctets (octets n v) := by
      rw [← ofOctets_foldl]; rfl
    rw [h, ih]
    simp only [octets_length, BitVec.toNat_ofNat]
    rw [pow_succ 256 n, Nat.mod_mul (x := v) (a := 256 ^ n) (b := 256), Nat.zero_mul, Nat.zero_add, Nat.mul_comm,
      Nat.add_comm]

/-- A field past the first part of a layout. -/
theorem fieldAt_append_right (a b : List Octet) (offset len : Nat) (h : a.length ≤ offset) :
    fieldAt (a ++ b) offset len = fieldAt b (offset - a.length) len := by
  simp [fieldAt, List.drop_append, List.drop_eq_nil_of_le h]

/-- A field inside the first part of a layout. -/
theorem fieldAt_append_left (a b : List Octet) (offset len : Nat) (h : offset + len ≤ a.length) :
    fieldAt (a ++ b) offset len = fieldAt a offset len := by
  simp only [fieldAt, List.drop_append]
  rw [List.take_append_of_le_length (by simp; omega)]

/-- A field past the first octet of a layout. -/
theorem fieldAt_cons (o : Octet) (b : List Octet) (offset len : Nat) (h : 1 ≤ offset) :
    fieldAt (o :: b) offset len = fieldAt b (offset - 1) len := by
  obtain ⟨k, rfl⟩ : ∃ k, offset = k + 1 := ⟨offset - 1, by omega⟩
  simp [fieldAt]

/-- The field that stands first. -/
@[simp] theorem fieldAt_octets (n v : Nat) : fieldAt (octets n v) 0 n = v % 256 ^ n := by
  simp [fieldAt, List.take_of_length_le]

/-- The signed field that stands first: its two's complement. -/
@[simp] theorem fieldAt_signedOctets (n : Nat) (v : Int) : (fieldAt (signedOctets n v) 0 n : Int) = v % (256 ^ n : Nat) := by
  have hp : (0 : Int) < (256 ^ n : Nat) := by exact_mod_cast Nat.pow_pos (by decide)
  have h0 : 0 ≤ v % (256 ^ n : Nat) := Int.emod_nonneg _ (by omega)
  have h1 : v % (256 ^ n : Nat) < (256 ^ n : Nat) := Int.emod_lt_of_pos _ hp
  unfold signedOctets
  rw [fieldAt_octets, Nat.mod_eq_of_lt (by omega)]
  omega

/-- An octet past the first part of a layout. -/
theorem octetAt_append_right (a b : List Octet) (offset : Nat) (h : a.length ≤ offset) :
    octetAt (a ++ b) offset = octetAt b (offset - a.length) := by
  simp [octetAt, List.getElem?_append_right h]

/-- An octet inside the first part of a layout. -/
theorem octetAt_append_left (a b : List Octet) (offset : Nat) (h : offset < a.length) :
    octetAt (a ++ b) offset = octetAt a offset := by
  simp [octetAt, List.getElem?_append_left h]

@[simp] theorem octetAt_cons_zero (o : Octet) (l : List Octet) : octetAt (o :: l) 0 = o := rfl

@[simp] theorem octetAt_cons_succ (o : Octet) (l : List Octet) (n : Nat) : octetAt (o :: l) (n + 1) = octetAt l n := rfl

end Sys2Proof.Machine
end

