-- ==== Sys2Proof/Laws/State.lean ====
section
/-! SUPPORT. What each update and each shared operation leaves as it was, field by field. -/

namespace Sys2Proof.Machine

variable (s : State)

/-! ### Updates: one lemma per field kept -/

@[simp] theorem State.raise_rstnHigh (c : Cause) : (s.raise c).rstnHigh = s.rstnHigh := rfl
@[simp] theorem State.raise_pfailnHigh (c : Cause) : (s.raise c).pfailnHigh = s.pfailnHigh := rfl
@[simp] theorem State.raise_port (c : Cause) : (s.raise c).port = s.port := rfl
@[simp] theorem State.raise_station (c : Cause) : (s.raise c).station = s.station := rfl
@[simp] theorem State.raise_items (c : Cause) : (s.raise c).items = s.items := rfl
@[simp] theorem State.raise_calendar (c : Cause) : (s.raise c).calendar = s.calendar := rfl
@[simp] theorem State.raise_timebase (c : Cause) : (s.raise c).timebase = s.timebase := rfl
@[simp] theorem State.raise_meters (c : Cause) : (s.raise c).meters = s.meters := rfl
@[simp] theorem State.raise_converter (c : Cause) : (s.raise c).converter = s.converter := rfl
@[simp] theorem State.raise_windows (c : Cause) : (s.raise c).windows = s.windows := rfl
@[simp] theorem State.raise_contexts (c : Cause) : (s.raise c).contexts = s.contexts := rfl
@[simp] theorem State.raise_records (c : Cause) : (s.raise c).records = s.records := rfl
@[simp] theorem State.raise_receiver (c : Cause) : (s.raise c).receiver = s.receiver := rfl
@[simp] theorem State.raise_transmitter (c : Cause) : (s.raise c).transmitter = s.transmitter := rfl
@[simp] theorem State.raise_peers (c : Cause) : (s.raise c).peers = s.peers := rfl
@[simp] theorem State.raise_freeCount (c : Cause) : (s.raise c).freeCount = s.freeCount := rfl
@[simp] theorem State.raise_pending (c : Cause) : (s.raise c).pending = s.pending := rfl

@[simp] theorem State.enterBackoff_rstnHigh : s.enterBackoff.rstnHigh = s.rstnHigh := rfl
@[simp] theorem State.enterBackoff_pfailnHigh : s.enterBackoff.pfailnHigh = s.pfailnHigh := rfl
@[simp] theorem State.enterBackoff_port : s.enterBackoff.port = s.port := rfl
@[simp] theorem State.enterBackoff_station : s.enterBackoff.station = s.station := rfl
@[simp] theorem State.enterBackoff_items : s.enterBackoff.items = s.items := rfl
@[simp] theorem State.enterBackoff_calendar : s.enterBackoff.calendar = s.calendar := rfl
@[simp] theorem State.enterBackoff_timebase : s.enterBackoff.timebase = s.timebase := rfl
@[simp] theorem State.enterBackoff_meters : s.enterBackoff.meters = s.meters := rfl
@[simp] theorem State.enterBackoff_converter : s.enterBackoff.converter = s.converter := rfl
@[simp] theorem State.enterBackoff_windows : s.enterBackoff.windows = s.windows := rfl
@[simp] theorem State.enterBackoff_contexts : s.enterBackoff.contexts = s.contexts := rfl
@[simp] theorem State.enterBackoff_records : s.enterBackoff.records = s.records := rfl
@[simp] theorem State.enterBackoff_receiver : s.enterBackoff.receiver = s.receiver := rfl
@[simp] theorem State.enterBackoff_peers : s.enterBackoff.peers = s.peers := rfl
@[simp] theorem State.enterBackoff_causes : s.enterBackoff.causes = s.causes := rfl
@[simp] theorem State.enterBackoff_freeCount : s.enterBackoff.freeCount = s.freeCount := rfl
@[simp] theorem State.enterBackoff_pending : s.enterBackoff.pending = s.pending := rfl

@[simp] theorem State.endAttempt_rstnHigh : s.endAttempt.rstnHigh = s.rstnHigh := rfl
@[simp] theorem State.endAttempt_pfailnHigh : s.endAttempt.pfailnHigh = s.pfailnHigh := rfl
@[simp] theorem State.endAttempt_port : s.endAttempt.port = s.port := rfl
@[simp] theorem State.endAttempt_station : s.endAttempt.station = s.station := rfl
@[simp] theorem State.endAttempt_items : s.endAttempt.items = s.items := rfl
@[simp] theorem State.endAttempt_calendar : s.endAttempt.calendar = s.calendar := rfl
@[simp] theorem State.endAttempt_timebase : s.endAttempt.timebase = s.timebase := rfl
@[simp] theorem State.endAttempt_meters : s.endAttempt.meters = s.meters := rfl
@[simp] theorem State.endAttempt_converter : s.endAttempt.converter = s.converter := rfl
@[simp] theorem State.endAttempt_windows : s.endAttempt.windows = s.windows := rfl
@[simp] theorem State.endAttempt_contexts : s.endAttempt.contexts = s.contexts := rfl
@[simp] theorem State.endAttempt_records : s.endAttempt.records = s.records := rfl
@[simp] theorem State.endAttempt_peers : s.endAttempt.peers = s.peers := rfl
@[simp] theorem State.endAttempt_causes : s.endAttempt.causes = s.causes := rfl
@[simp] theorem State.endAttempt_freeCount : s.endAttempt.freeCount = s.freeCount := rfl
@[simp] theorem State.endAttempt_pending : s.endAttempt.pending = s.pending := rfl

@[simp] theorem State.dropLineTest_rstnHigh : s.dropLineTest.rstnHigh = s.rstnHigh := rfl
@[simp] theorem State.dropLineTest_pfailnHigh : s.dropLineTest.pfailnHigh = s.pfailnHigh := rfl
@[simp] theorem State.dropLineTest_port : s.dropLineTest.port = s.port := rfl
@[simp] theorem State.dropLineTest_station : s.dropLineTest.station = s.station := rfl
@[simp] theorem State.dropLineTest_items : s.dropLineTest.items = s.items := rfl
@[simp] theorem State.dropLineTest_calendar : s.dropLineTest.calendar = s.calendar := rfl
@[simp] theorem State.dropLineTest_timebase : s.dropLineTest.timebase = s.timebase := rfl
@[simp] theorem State.dropLineTest_meters : s.dropLineTest.meters = s.meters := rfl
@[simp] theorem State.dropLineTest_converter : s.dropLineTest.converter = s.converter := rfl
@[simp] theorem State.dropLineTest_windows : s.dropLineTest.windows = s.windows := rfl
@[simp] theorem State.dropLineTest_contexts : s.dropLineTest.contexts = s.contexts := rfl
@[simp] theorem State.dropLineTest_records : s.dropLineTest.records = s.records := rfl
@[simp] theorem State.dropLineTest_peers : s.dropLineTest.peers = s.peers := rfl
@[simp] theorem State.dropLineTest_causes : s.dropLineTest.causes = s.causes := rfl
@[simp] theorem State.dropLineTest_freeCount : s.dropLineTest.freeCount = s.freeCount := rfl
@[simp] theorem State.dropLineTest_pending : s.dropLineTest.pending = s.pending := rfl

@[simp] theorem State.settleGraceReport_rstnHigh (outcome : ReportStatus) : (s.settleGraceReport outcome).rstnHigh = s.rstnHigh := rfl
@[simp] theorem State.settleGraceReport_pfailnHigh (outcome : ReportStatus) : (s.settleGraceReport outcome).pfailnHigh = s.pfailnHigh := rfl
@[simp] theorem State.settleGraceReport_port (outcome : ReportStatus) : (s.settleGraceReport outcome).port = s.port := rfl
@[simp] theorem State.settleGraceReport_station (outcome : ReportStatus) : (s.settleGraceReport outcome).station = s.station := rfl
@[simp] theorem State.settleGraceReport_items (outcome : ReportStatus) : (s.settleGraceReport outcome).items = s.items := rfl
@[simp] theorem State.settleGraceReport_calendar (outcome : ReportStatus) : (s.settleGraceReport outcome).calendar = s.calendar := rfl
@[simp] theorem State.settleGraceReport_timebase (outcome : ReportStatus) : (s.settleGraceReport outcome).timebase = s.timebase := rfl
@[simp] theorem State.settleGraceReport_meters (outcome : ReportStatus) : (s.settleGraceReport outcome).meters = s.meters := rfl
@[simp] theorem State.settleGraceReport_converter (outcome : ReportStatus) : (s.settleGraceReport outcome).converter = s.converter := rfl
@[simp] theorem State.settleGraceReport_contexts (outcome : ReportStatus) : (s.settleGraceReport outcome).contexts = s.contexts := rfl
@[simp] theorem State.settleGraceReport_records (outcome : ReportStatus) : (s.settleGraceReport outcome).records = s.records := rfl
@[simp] theorem State.settleGraceReport_receiver (outcome : ReportStatus) : (s.settleGraceReport outcome).receiver = s.receiver := rfl
@[simp] theorem State.settleGraceReport_transmitter (outcome : ReportStatus) : (s.settleGraceReport outcome).transmitter = s.transmitter := rfl
@[simp] theorem State.settleGraceReport_peers (outcome : ReportStatus) : (s.settleGraceReport outcome).peers = s.peers := rfl
@[simp] theorem State.settleGraceReport_causes (outcome : ReportStatus) : (s.settleGraceReport outcome).causes = s.causes := rfl
@[simp] theorem State.settleGraceReport_freeCount (outcome : ReportStatus) : (s.settleGraceReport outcome).freeCount = s.freeCount := rfl
@[simp] theorem State.settleGraceReport_pending (outcome : ReportStatus) : (s.settleGraceReport outcome).pending = s.pending := rfl

@[simp] theorem State.settleClosedReport_rstnHigh (outcome : ReportStatus) : (s.settleClosedReport outcome).rstnHigh = s.rstnHigh := rfl
@[simp] theorem State.settleClosedReport_pfailnHigh (outcome : ReportStatus) : (s.settleClosedReport outcome).pfailnHigh = s.pfailnHigh := rfl
@[simp] theorem State.settleClosedReport_port (outcome : ReportStatus) : (s.settleClosedReport outcome).port = s.port := rfl
@[simp] theorem State.settleClosedReport_station (outcome : ReportStatus) : (s.settleClosedReport outcome).station = s.station := rfl
@[simp] theorem State.settleClosedReport_items (outcome : ReportStatus) : (s.settleClosedReport outcome).items = s.items := rfl
@[simp] theorem State.settleClosedReport_calendar (outcome : ReportStatus) : (s.settleClosedReport outcome).calendar = s.calendar := rfl
@[simp] theorem State.settleClosedReport_timebase (outcome : ReportStatus) : (s.settleClosedReport outcome).timebase = s.timebase := rfl
@[simp] theorem State.settleClosedReport_meters (outcome : ReportStatus) : (s.settleClosedReport outcome).meters = s.meters := rfl
@[simp] theorem State.settleClosedReport_converter (outcome : ReportStatus) : (s.settleClosedReport outcome).converter = s.converter := rfl
@[simp] theorem State.settleClosedReport_contexts (outcome : ReportStatus) : (s.settleClosedReport outcome).contexts = s.contexts := rfl
@[simp] theorem State.settleClosedReport_records (outcome : ReportStatus) : (s.settleClosedReport outcome).records = s.records := rfl
@[simp] theorem State.settleClosedReport_receiver (outcome : ReportStatus) : (s.settleClosedReport outcome).receiver = s.receiver := rfl
@[simp] theorem State.settleClosedReport_transmitter (outcome : ReportStatus) : (s.settleClosedReport outcome).transmitter = s.transmitter := rfl
@[simp] theorem State.settleClosedReport_peers (outcome : ReportStatus) : (s.settleClosedReport outcome).peers = s.peers := rfl
@[simp] theorem State.settleClosedReport_causes (outcome : ReportStatus) : (s.settleClosedReport outcome).causes = s.causes := rfl
@[simp] theorem State.settleClosedReport_freeCount (outcome : ReportStatus) : (s.settleClosedReport outcome).freeCount = s.freeCount := rfl
@[simp] theorem State.settleClosedReport_pending (outcome : ReportStatus) : (s.settleClosedReport outcome).pending = s.pending := rfl

@[simp] theorem State.seeLrx_rstnHigh (space : Bool) : (s.seeLrx space).rstnHigh = s.rstnHigh := rfl
@[simp] theorem State.seeLrx_pfailnHigh (space : Bool) : (s.seeLrx space).pfailnHigh = s.pfailnHigh := rfl
@[simp] theorem State.seeLrx_port (space : Bool) : (s.seeLrx space).port = s.port := rfl
@[simp] theorem State.seeLrx_station (space : Bool) : (s.seeLrx space).station = s.station := rfl
@[simp] theorem State.seeLrx_items (space : Bool) : (s.seeLrx space).items = s.items := rfl
@[simp] theorem State.seeLrx_calendar (space : Bool) : (s.seeLrx space).calendar = s.calendar := rfl
@[simp] theorem State.seeLrx_timebase (space : Bool) : (s.seeLrx space).timebase = s.timebase := rfl
@[simp] theorem State.seeLrx_meters (space : Bool) : (s.seeLrx space).meters = s.meters := rfl
@[simp] theorem State.seeLrx_converter (space : Bool) : (s.seeLrx space).converter = s.converter := rfl
@[simp] theorem State.seeLrx_windows (space : Bool) : (s.seeLrx space).windows = s.windows := rfl
@[simp] theorem State.seeLrx_contexts (space : Bool) : (s.seeLrx space).contexts = s.contexts := rfl
@[simp] theorem State.seeLrx_records (space : Bool) : (s.seeLrx space).records = s.records := rfl
@[simp] theorem State.seeLrx_transmitter (space : Bool) : (s.seeLrx space).transmitter = s.transmitter := rfl
@[simp] theorem State.seeLrx_peers (space : Bool) : (s.seeLrx space).peers = s.peers := rfl
@[simp] theorem State.seeLrx_causes (space : Bool) : (s.seeLrx space).causes = s.causes := rfl
@[simp] theorem State.seeLrx_freeCount (space : Bool) : (s.seeLrx space).freeCount = s.freeCount := rfl
@[simp] theorem State.seeLrx_pending (space : Bool) : (s.seeLrx space).pending = s.pending := rfl

/-- Seeing LRX changes the receiver's record of its level alone. -/
theorem State.seeLrx_receiver (space : Bool) :
    (s.seeLrx space).receiver =
      { s.receiver with
        lrxAtSpace := if s.transmitter.testMode = .internal then s.receiver.lrxAtSpace else space } := rfl

@[simp] theorem State.startBit_rstnHigh : s.startBit.rstnHigh = s.rstnHigh := rfl
@[simp] theorem State.startBit_pfailnHigh : s.startBit.pfailnHigh = s.pfailnHigh := rfl
@[simp] theorem State.startBit_port : s.startBit.port = s.port := rfl
@[simp] theorem State.startBit_station : s.startBit.station = s.station := rfl
@[simp] theorem State.startBit_items : s.startBit.items = s.items := rfl
@[simp] theorem State.startBit_calendar : s.startBit.calendar = s.calendar := rfl
@[simp] theorem State.startBit_timebase : s.startBit.timebase = s.timebase := rfl
@[simp] theorem State.startBit_meters : s.startBit.meters = s.meters := rfl
@[simp] theorem State.startBit_converter : s.startBit.converter = s.converter := rfl
@[simp] theorem State.startBit_windows : s.startBit.windows = s.windows := rfl
@[simp] theorem State.startBit_contexts : s.startBit.contexts = s.contexts := rfl
@[simp] theorem State.startBit_records : s.startBit.records = s.records := rfl
@[simp] theorem State.startBit_peers : s.startBit.peers = s.peers := rfl
@[simp] theorem State.startBit_causes : s.startBit.causes = s.causes := rfl
@[simp] theorem State.startBit_freeCount : s.startBit.freeCount = s.freeCount := rfl
@[simp] theorem State.startBit_pending : s.startBit.pending = s.pending := rfl

@[simp] theorem State.startSending_rstnHigh : s.startSending.rstnHigh = s.rstnHigh := rfl
@[simp] theorem State.startSending_pfailnHigh : s.startSending.pfailnHigh = s.pfailnHigh := rfl
@[simp] theorem State.startSending_port : s.startSending.port = s.port := rfl
@[simp] theorem State.startSending_station : s.startSending.station = s.station := rfl
@[simp] theorem State.startSending_items : s.startSending.items = s.items := rfl
@[simp] theorem State.startSending_calendar : s.startSending.calendar = s.calendar := rfl
@[simp] theorem State.startSending_timebase : s.startSending.timebase = s.timebase := rfl
@[simp] theorem State.startSending_meters : s.startSending.meters = s.meters := rfl
@[simp] theorem State.startSending_converter : s.startSending.converter = s.converter := rfl
@[simp] theorem State.startSending_windows : s.startSending.windows = s.windows := rfl
@[simp] theorem State.startSending_contexts : s.startSending.contexts = s.contexts := rfl
@[simp] theorem State.startSending_records : s.startSending.records = s.records := rfl
@[simp] theorem State.startSending_peers : s.startSending.peers = s.peers := rfl
@[simp] theorem State.startSending_causes : s.startSending.causes = s.causes := rfl
@[simp] theorem State.startSending_freeCount : s.startSending.freeCount = s.freeCount := rfl
@[simp] theorem State.startSending_pending : s.startSending.pending = s.pending := rfl

@[simp] theorem State.giveUp_rstnHigh : s.giveUp.rstnHigh = s.rstnHigh := rfl
@[simp] theorem State.giveUp_pfailnHigh : s.giveUp.pfailnHigh = s.pfailnHigh := rfl
@[simp] theorem State.giveUp_port : s.giveUp.port = s.port := rfl
@[simp] theorem State.giveUp_station : s.giveUp.station = s.station := rfl
@[simp] theorem State.giveUp_items : s.giveUp.items = s.items := rfl
@[simp] theorem State.giveUp_calendar : s.giveUp.calendar = s.calendar := rfl
@[simp] theorem State.giveUp_timebase : s.giveUp.timebase = s.timebase := rfl
@[simp] theorem State.giveUp_meters : s.giveUp.meters = s.meters := rfl
@[simp] theorem State.giveUp_converter : s.giveUp.converter = s.converter := rfl
@[simp] theorem State.giveUp_windows : s.giveUp.windows = s.windows := rfl
@[simp] theorem State.giveUp_contexts : s.giveUp.contexts = s.contexts := rfl
@[simp] theorem State.giveUp_records : s.giveUp.records = s.records := rfl
@[simp] theorem State.giveUp_receiver : s.giveUp.receiver = s.receiver := rfl
@[simp] theorem State.giveUp_peers : s.giveUp.peers = s.peers := rfl
@[simp] theorem State.giveUp_freeCount : s.giveUp.freeCount = s.freeCount := rfl
@[simp] theorem State.giveUp_pending : s.giveUp.pending = s.pending := rfl

@[simp] theorem State.enter_rstnHigh (st : StationState) : (s.enter st).rstnHigh = s.rstnHigh := rfl
@[simp] theorem State.enter_pfailnHigh (st : StationState) : (s.enter st).pfailnHigh = s.pfailnHigh := rfl
@[simp] theorem State.enter_port (st : StationState) : (s.enter st).port = s.port := rfl
@[simp] theorem State.enter_items (st : StationState) : (s.enter st).items = s.items := rfl
@[simp] theorem State.enter_calendar (st : StationState) : (s.enter st).calendar = s.calendar := rfl
@[simp] theorem State.enter_timebase (st : StationState) : (s.enter st).timebase = s.timebase := rfl
@[simp] theorem State.enter_meters (st : StationState) : (s.enter st).meters = s.meters := rfl
@[simp] theorem State.enter_converter (st : StationState) : (s.enter st).converter = s.converter := rfl
@[simp] theorem State.enter_windows (st : StationState) : (s.enter st).windows = s.windows := rfl
@[simp] theorem State.enter_contexts (st : StationState) : (s.enter st).contexts = s.contexts := rfl
@[simp] theorem State.enter_records (st : StationState) : (s.enter st).records = s.records := rfl
@[simp] theorem State.enter_receiver (st : StationState) : (s.enter st).receiver = s.receiver := rfl
@[simp] theorem State.enter_transmitter (st : StationState) : (s.enter st).transmitter = s.transmitter := rfl
@[simp] theorem State.enter_peers (st : StationState) : (s.enter st).peers = s.peers := rfl
@[simp] theorem State.enter_causes (st : StationState) : (s.enter st).causes = s.causes := rfl
@[simp] theorem State.enter_freeCount (st : StationState) : (s.enter st).freeCount = s.freeCount := rfl
@[simp] theorem State.enter_pending (st : StationState) : (s.enter st).pending = s.pending := rfl

@[simp] theorem State.storeItems_rstnHigh (w : ItemWrite) : (s.storeItems w).rstnHigh = s.rstnHigh := rfl
@[simp] theorem State.storeItems_pfailnHigh (w : ItemWrite) : (s.storeItems w).pfailnHigh = s.pfailnHigh := rfl
@[simp] theorem State.storeItems_port (w : ItemWrite) : (s.storeItems w).port = s.port := rfl
@[simp] theorem State.storeItems_station (w : ItemWrite) : (s.storeItems w).station = s.station := rfl
@[simp] theorem State.storeItems_timebase (w : ItemWrite) : (s.storeItems w).timebase = s.timebase := rfl
@[simp] theorem State.storeItems_meters (w : ItemWrite) : (s.storeItems w).meters = s.meters := rfl
@[simp] theorem State.storeItems_converter (w : ItemWrite) : (s.storeItems w).converter = s.converter := rfl
@[simp] theorem State.storeItems_windows (w : ItemWrite) : (s.storeItems w).windows = s.windows := rfl
@[simp] theorem State.storeItems_contexts (w : ItemWrite) : (s.storeItems w).contexts = s.contexts := rfl
@[simp] theorem State.storeItems_records (w : ItemWrite) : (s.storeItems w).records = s.records := rfl
@[simp] theorem State.storeItems_receiver (w : ItemWrite) : (s.storeItems w).receiver = s.receiver := rfl
@[simp] theorem State.storeItems_transmitter (w : ItemWrite) : (s.storeItems w).transmitter = s.transmitter := rfl
@[simp] theorem State.storeItems_peers (w : ItemWrite) : (s.storeItems w).peers = s.peers := rfl
@[simp] theorem State.storeItems_causes (w : ItemWrite) : (s.storeItems w).causes = s.causes := rfl
@[simp] theorem State.storeItems_freeCount (w : ItemWrite) : (s.storeItems w).freeCount = s.freeCount := rfl
@[simp] theorem State.storeItems_pending (w : ItemWrite) : (s.storeItems w).pending = s.pending := rfl

@[simp] theorem State.commissionBlocks_rstnHigh : s.commissionBlocks.rstnHigh = s.rstnHigh := rfl
@[simp] theorem State.commissionBlocks_pfailnHigh : s.commissionBlocks.pfailnHigh = s.pfailnHigh := rfl
@[simp] theorem State.commissionBlocks_port : s.commissionBlocks.port = s.port := rfl
@[simp] theorem State.commissionBlocks_calendar : s.commissionBlocks.calendar = s.calendar := rfl
@[simp] theorem State.commissionBlocks_records : s.commissionBlocks.records = s.records := rfl
@[simp] theorem State.commissionBlocks_receiver : s.commissionBlocks.receiver = s.receiver := rfl
@[simp] theorem State.commissionBlocks_transmitter : s.commissionBlocks.transmitter = s.transmitter := rfl
@[simp] theorem State.commissionBlocks_peers : s.commissionBlocks.peers = s.peers := rfl
@[simp] theorem State.commissionBlocks_causes : s.commissionBlocks.causes = s.causes := rfl
@[simp] theorem State.commissionBlocks_freeCount : s.commissionBlocks.freeCount = s.freeCount := rfl
@[simp] theorem State.commissionBlocks_pending : s.commissionBlocks.pending = s.pending := rfl

@[simp] theorem State.followPin_rstnHigh : s.followPin.rstnHigh = s.rstnHigh := rfl
@[simp] theorem State.followPin_pfailnHigh : s.followPin.pfailnHigh = s.pfailnHigh := rfl
@[simp] theorem State.followPin_port : s.followPin.port = s.port := rfl
@[simp] theorem State.followPin_items : s.followPin.items = s.items := rfl
@[simp] theorem State.followPin_calendar : s.followPin.calendar = s.calendar := rfl
@[simp] theorem State.followPin_timebase : s.followPin.timebase = s.timebase := rfl
@[simp] theorem State.followPin_meters : s.followPin.meters = s.meters := rfl
@[simp] theorem State.followPin_converter : s.followPin.converter = s.converter := rfl
@[simp] theorem State.followPin_windows : s.followPin.windows = s.windows := rfl
@[simp] theorem State.followPin_contexts : s.followPin.contexts = s.contexts := rfl
@[simp] theorem State.followPin_records : s.followPin.records = s.records := rfl
@[simp] theorem State.followPin_receiver : s.followPin.receiver = s.receiver := rfl
@[simp] theorem State.followPin_transmitter : s.followPin.transmitter = s.transmitter := rfl
@[simp] theorem State.followPin_peers : s.followPin.peers = s.peers := rfl
@[simp] theorem State.followPin_causes : s.followPin.causes = s.causes := rfl
@[simp] theorem State.followPin_freeCount : s.followPin.freeCount = s.freeCount := rfl
@[simp] theorem State.followPin_pending : s.followPin.pending = s.pending := rfl

@[simp] theorem State.ignoreFrame_rstnHigh : s.ignoreFrame.rstnHigh = s.rstnHigh := rfl
@[simp] theorem State.ignoreFrame_pfailnHigh : s.ignoreFrame.pfailnHigh = s.pfailnHigh := rfl
@[simp] theorem State.ignoreFrame_port : s.ignoreFrame.port = s.port := rfl
@[simp] theorem State.ignoreFrame_station : s.ignoreFrame.station = s.station := rfl
@[simp] theorem State.ignoreFrame_items : s.ignoreFrame.items = s.items := rfl
@[simp] theorem State.ignoreFrame_calendar : s.ignoreFrame.calendar = s.calendar := rfl
@[simp] theorem State.ignoreFrame_timebase : s.ignoreFrame.timebase = s.timebase := rfl
@[simp] theorem State.ignoreFrame_meters : s.ignoreFrame.meters = s.meters := rfl
@[simp] theorem State.ignoreFrame_converter : s.ignoreFrame.converter = s.converter := rfl
@[simp] theorem State.ignoreFrame_windows : s.ignoreFrame.windows = s.windows := rfl
@[simp] theorem State.ignoreFrame_contexts : s.ignoreFrame.contexts = s.contexts := rfl
@[simp] theorem State.ignoreFrame_records : s.ignoreFrame.records = s.records := rfl
@[simp] theorem State.ignoreFrame_transmitter : s.ignoreFrame.transmitter = s.transmitter := rfl
@[simp] theorem State.ignoreFrame_peers : s.ignoreFrame.peers = s.peers := rfl
@[simp] theorem State.ignoreFrame_causes : s.ignoreFrame.causes = s.causes := rfl
@[simp] theorem State.ignoreFrame_freeCount : s.ignoreFrame.freeCount = s.freeCount := rfl
@[simp] theorem State.ignoreFrame_pending : s.ignoreFrame.pending = s.pending := rfl

@[simp] theorem State.malformedFrame_rstnHigh : s.malformedFrame.rstnHigh = s.rstnHigh := rfl
@[simp] theorem State.malformedFrame_pfailnHigh : s.malformedFrame.pfailnHigh = s.pfailnHigh := rfl
@[simp] theorem State.malformedFrame_port : s.malformedFrame.port = s.port := rfl
@[simp] theorem State.malformedFrame_station : s.malformedFrame.station = s.station := rfl
@[simp] theorem State.malformedFrame_items : s.malformedFrame.items = s.items := rfl
@[simp] theorem State.malformedFrame_calendar : s.malformedFrame.calendar = s.calendar := rfl
@[simp] theorem State.malformedFrame_timebase : s.malformedFrame.timebase = s.timebase := rfl
@[simp] theorem State.malformedFrame_meters : s.malformedFrame.meters = s.meters := rfl
@[simp] theorem State.malformedFrame_converter : s.malformedFrame.converter = s.converter := rfl
@[simp] theorem State.malformedFrame_windows : s.malformedFrame.windows = s.windows := rfl
@[simp] theorem State.malformedFrame_contexts : s.malformedFrame.contexts = s.contexts := rfl
@[simp] theorem State.malformedFrame_records : s.malformedFrame.records = s.records := rfl
@[simp] theorem State.malformedFrame_transmitter : s.malformedFrame.transmitter = s.transmitter := rfl
@[simp] theorem State.malformedFrame_peers : s.malformedFrame.peers = s.peers := rfl
@[simp] theorem State.malformedFrame_causes : s.malformedFrame.causes = s.causes := rfl
@[simp] theorem State.malformedFrame_freeCount : s.malformedFrame.freeCount = s.freeCount := rfl
@[simp] theorem State.malformedFrame_pending : s.malformedFrame.pending = s.pending := rfl

@[simp] theorem State.echo_rstnHigh (q : Nat) : (s.echo q).rstnHigh = s.rstnHigh := rfl
@[simp] theorem State.echo_pfailnHigh (q : Nat) : (s.echo q).pfailnHigh = s.pfailnHigh := rfl
@[simp] theorem State.echo_port (q : Nat) : (s.echo q).port = s.port := rfl
@[simp] theorem State.echo_station (q : Nat) : (s.echo q).station = s.station := rfl
@[simp] theorem State.echo_items (q : Nat) : (s.echo q).items = s.items := rfl
@[simp] theorem State.echo_calendar (q : Nat) : (s.echo q).calendar = s.calendar := rfl
@[simp] theorem State.echo_timebase (q : Nat) : (s.echo q).timebase = s.timebase := rfl
@[simp] theorem State.echo_meters (q : Nat) : (s.echo q).meters = s.meters := rfl
@[simp] theorem State.echo_converter (q : Nat) : (s.echo q).converter = s.converter := rfl
@[simp] theorem State.echo_windows (q : Nat) : (s.echo q).windows = s.windows := rfl
@[simp] theorem State.echo_contexts (q : Nat) : (s.echo q).contexts = s.contexts := rfl
@[simp] theorem State.echo_records (q : Nat) : (s.echo q).records = s.records := rfl
@[simp] theorem State.echo_transmitter (q : Nat) : (s.echo q).transmitter = s.transmitter := rfl
@[simp] theorem State.echo_peers (q : Nat) : (s.echo q).peers = s.peers := rfl
@[simp] theorem State.echo_causes (q : Nat) : (s.echo q).causes = s.causes := rfl
@[simp] theorem State.echo_freeCount (q : Nat) : (s.echo q).freeCount = s.freeCount := rfl
@[simp] theorem State.echo_pending (q : Nat) : (s.echo q).pending = s.pending := rfl

@[simp] theorem State.addressClash_rstnHigh : s.addressClash.rstnHigh = s.rstnHigh := rfl
@[simp] theorem State.addressClash_pfailnHigh : s.addressClash.pfailnHigh = s.pfailnHigh := rfl
@[simp] theorem State.addressClash_port : s.addressClash.port = s.port := rfl
@[simp] theorem State.addressClash_station : s.addressClash.station = s.station := rfl
@[simp] theorem State.addressClash_items : s.addressClash.items = s.items := rfl
@[simp] theorem State.addressClash_calendar : s.addressClash.calendar = s.calendar := rfl
@[simp] theorem State.addressClash_timebase : s.addressClash.timebase = s.timebase := rfl
@[simp] theorem State.addressClash_meters : s.addressClash.meters = s.meters := rfl
@[simp] theorem State.addressClash_converter : s.addressClash.converter = s.converter := rfl
@[simp] theorem State.addressClash_windows : s.addressClash.windows = s.windows := rfl
@[simp] theorem State.addressClash_records : s.addressClash.records = s.records := rfl
@[simp] theorem State.addressClash_transmitter : s.addressClash.transmitter = s.transmitter := rfl
@[simp] theorem State.addressClash_peers : s.addressClash.peers = s.peers := rfl
@[simp] theorem State.addressClash_freeCount : s.addressClash.freeCount = s.freeCount := rfl
@[simp] theorem State.addressClash_pending : s.addressClash.pending = s.pending := rfl

@[simp] theorem State.fullReset_rstnHigh : s.fullReset.rstnHigh = s.rstnHigh := rfl
@[simp] theorem State.fullReset_pfailnHigh : s.fullReset.pfailnHigh = s.pfailnHigh := rfl
@[simp] theorem State.fullReset_freeCount : s.fullReset.freeCount = s.freeCount := rfl
@[simp] theorem State.fullReset_pending : s.fullReset.pending = s.pending := rfl

/-! ### Shared operations: what each leaves as it was -/

@[simp] theorem State.raiseIf_frame (b : Bool) (c : Cause) :
    (s.raiseIf b c).rstnHigh = s.rstnHigh ∧ (s.raiseIf b c).pfailnHigh = s.pfailnHigh ∧
    (s.raiseIf b c).port = s.port ∧ (s.raiseIf b c).station = s.station ∧ (s.raiseIf b c).items = s.items ∧
    (s.raiseIf b c).calendar = s.calendar ∧ (s.raiseIf b c).timebase = s.timebase ∧
    (s.raiseIf b c).meters = s.meters ∧ (s.raiseIf b c).converter = s.converter ∧
    (s.raiseIf b c).windows = s.windows ∧ (s.raiseIf b c).contexts = s.contexts ∧
    (s.raiseIf b c).records = s.records ∧ (s.raiseIf b c).receiver = s.receiver ∧
    (s.raiseIf b c).transmitter = s.transmitter ∧ (s.raiseIf b c).peers = s.peers ∧
    (s.raiseIf b c).freeCount = s.freeCount ∧ (s.raiseIf b c).pending = s.pending := by
  cases b <;> simp [State.raiseIf]

@[simp] theorem State.restartReceiver_frame :
    s.restartReceiver.rstnHigh = s.rstnHigh ∧ s.restartReceiver.pfailnHigh = s.pfailnHigh ∧
    s.restartReceiver.port = s.port ∧ s.restartReceiver.station = s.station ∧ s.restartReceiver.items = s.items ∧
    s.restartReceiver.calendar = s.calendar ∧ s.restartReceiver.timebase = s.timebase ∧
    s.restartReceiver.meters = s.meters ∧ s.restartReceiver.converter = s.converter ∧
    s.restartReceiver.windows = s.windows ∧ s.restartReceiver.contexts = s.contexts ∧
    s.restartReceiver.records = s.records ∧ s.restartReceiver.peers = s.peers ∧ s.restartReceiver.causes = s.causes ∧
    s.restartReceiver.freeCount = s.freeCount ∧ s.restartReceiver.pending = s.pending := by
  unfold State.restartReceiver; split <;> simp

@[simp] theorem State.reportStuck_frame :
    s.reportStuck.rstnHigh = s.rstnHigh ∧ s.reportStuck.pfailnHigh = s.pfailnHigh ∧ s.reportStuck.port = s.port ∧
    s.reportStuck.station = s.station ∧ s.reportStuck.items = s.items ∧ s.reportStuck.calendar = s.calendar ∧
    s.reportStuck.timebase = s.timebase ∧ s.reportStuck.meters = s.meters ∧ s.reportStuck.converter = s.converter ∧
    s.reportStuck.windows = s.windows ∧ s.reportStuck.contexts = s.contexts ∧ s.reportStuck.records = s.records ∧
    s.reportStuck.receiver = s.receiver ∧ s.reportStuck.peers = s.peers ∧ s.reportStuck.freeCount = s.freeCount ∧
    s.reportStuck.pending = s.pending := by
  unfold State.reportStuck; split <;> simp

@[simp] theorem State.enterWaitIdle_frame :
    s.enterWaitIdle.rstnHigh = s.rstnHigh ∧ s.enterWaitIdle.pfailnHigh = s.pfailnHigh ∧
    s.enterWaitIdle.port = s.port ∧ s.enterWaitIdle.station = s.station ∧ s.enterWaitIdle.items = s.items ∧
    s.enterWaitIdle.calendar = s.calendar ∧ s.enterWaitIdle.timebase = s.timebase ∧
    s.enterWaitIdle.meters = s.meters ∧ s.enterWaitIdle.converter = s.converter ∧
    s.enterWaitIdle.windows = s.windows ∧ s.enterWaitIdle.contexts = s.contexts ∧
    s.enterWaitIdle.records = s.records ∧ s.enterWaitIdle.receiver = s.receiver ∧ s.enterWaitIdle.peers = s.peers ∧
    s.enterWaitIdle.freeCount = s.freeCount ∧ s.enterWaitIdle.pending = s.pending := by
  unfold State.enterWaitIdle; split <;> simp

@[simp] theorem State.chooseCurrent_frame :
    s.chooseCurrent.rstnHigh = s.rstnHigh ∧ s.chooseCurrent.pfailnHigh = s.pfailnHigh ∧
    s.chooseCurrent.port = s.port ∧ s.chooseCurrent.station = s.station ∧ s.chooseCurrent.items = s.items ∧
    s.chooseCurrent.calendar = s.calendar ∧ s.chooseCurrent.timebase = s.timebase ∧
    s.chooseCurrent.meters = s.meters ∧ s.chooseCurrent.converter = s.converter ∧
    s.chooseCurrent.windows = s.windows ∧ s.chooseCurrent.contexts = s.contexts ∧
    s.chooseCurrent.records = s.records ∧ s.chooseCurrent.receiver = s.receiver ∧ s.chooseCurrent.peers = s.peers ∧
    s.chooseCurrent.freeCount = s.freeCount ∧ s.chooseCurrent.pending = s.pending := by
  unfold State.chooseCurrent; split <;> (try split) <;> (try split) <;> simp

@[simp] theorem State.endOfQuietNotice_frame :
    s.endOfQuietNotice.rstnHigh = s.rstnHigh ∧ s.endOfQuietNotice.pfailnHigh = s.pfailnHigh ∧
    s.endOfQuietNotice.port = s.port ∧ s.endOfQuietNotice.items = s.items ∧
    s.endOfQuietNotice.calendar = s.calendar ∧ s.endOfQuietNotice.timebase = s.timebase ∧
    s.endOfQuietNotice.meters = s.meters ∧ s.endOfQuietNotice.converter = s.converter ∧
    s.endOfQuietNotice.windows = s.windows ∧ s.endOfQuietNotice.contexts = s.contexts ∧
    s.endOfQuietNotice.records = s.records ∧ s.endOfQuietNotice.receiver = s.receiver ∧
    s.endOfQuietNotice.transmitter = s.transmitter ∧ s.endOfQuietNotice.peers = s.peers ∧
    s.endOfQuietNotice.causes = s.causes ∧ s.endOfQuietNotice.freeCount = s.freeCount ∧
    s.endOfQuietNotice.pending = s.pending := by
  unfold State.endOfQuietNotice; split <;> simp

@[simp] theorem State.noticeEnded_frame (a : NoticeState) :
    (s.noticeEnded a).rstnHigh = s.rstnHigh ∧ (s.noticeEnded a).pfailnHigh = s.pfailnHigh ∧
    (s.noticeEnded a).port = s.port ∧ (s.noticeEnded a).items = s.items ∧ (s.noticeEnded a).calendar = s.calendar ∧
    (s.noticeEnded a).timebase = s.timebase ∧ (s.noticeEnded a).meters = s.meters ∧
    (s.noticeEnded a).converter = s.converter ∧ (s.noticeEnded a).windows = s.windows ∧
    (s.noticeEnded a).contexts = s.contexts ∧ (s.noticeEnded a).records = s.records ∧
    (s.noticeEnded a).receiver = s.receiver ∧ (s.noticeEnded a).transmitter = s.transmitter ∧
    (s.noticeEnded a).peers = s.peers ∧ (s.noticeEnded a).causes = s.causes ∧
    (s.noticeEnded a).freeCount = s.freeCount ∧ (s.noticeEnded a).pending = s.pending := by
  unfold State.noticeEnded; split <;> simp

@[simp] theorem State.requestNotice_frame (a : NoticeState) :
    (s.requestNotice a).rstnHigh = s.rstnHigh ∧ (s.requestNotice a).pfailnHigh = s.pfailnHigh ∧
    (s.requestNotice a).port = s.port ∧ (s.requestNotice a).items = s.items ∧
    (s.requestNotice a).calendar = s.calendar ∧ (s.requestNotice a).timebase = s.timebase ∧
    (s.requestNotice a).meters = s.meters ∧ (s.requestNotice a).converter = s.converter ∧
    (s.requestNotice a).windows = s.windows ∧ (s.requestNotice a).contexts = s.contexts ∧
    (s.requestNotice a).records = s.records ∧ (s.requestNotice a).receiver = s.receiver ∧
    (s.requestNotice a).peers = s.peers ∧ (s.requestNotice a).freeCount = s.freeCount ∧
    (s.requestNotice a).pending = s.pending := by
  unfold State.requestNotice; split <;> (try split) <;> simp

@[simp] theorem State.queueReport_frame (k : ReportContent) :
    (s.queueReport k).rstnHigh = s.rstnHigh ∧ (s.queueReport k).pfailnHigh = s.pfailnHigh ∧
    (s.queueReport k).port = s.port ∧ (s.queueReport k).station = s.station ∧ (s.queueReport k).items = s.items ∧
    (s.queueReport k).calendar = s.calendar ∧ (s.queueReport k).timebase = s.timebase ∧
    (s.queueReport k).meters = s.meters ∧ (s.queueReport k).converter = s.converter ∧
    (s.queueReport k).windows = s.windows ∧ (s.queueReport k).contexts = s.contexts ∧
    (s.queueReport k).records = s.records ∧ (s.queueReport k).receiver = s.receiver ∧
    (s.queueReport k).peers = s.peers ∧ (s.queueReport k).freeCount = s.freeCount ∧
    (s.queueReport k).pending = s.pending := by
  simp [State.queueReport]

@[simp] theorem State.settleReport_frame (b : Bool) (outcome : ReportStatus) :
    (s.settleReport b outcome).rstnHigh = s.rstnHigh ∧ (s.settleReport b outcome).pfailnHigh = s.pfailnHigh ∧
    (s.settleReport b outcome).port = s.port ∧ (s.settleReport b outcome).station = s.station ∧
    (s.settleReport b outcome).items = s.items ∧ (s.settleReport b outcome).calendar = s.calendar ∧
    (s.settleReport b outcome).timebase = s.timebase ∧ (s.settleReport b outcome).meters = s.meters ∧
    (s.settleReport b outcome).converter = s.converter ∧ (s.settleReport b outcome).contexts = s.contexts ∧
    (s.settleReport b outcome).records = s.records ∧ (s.settleReport b outcome).receiver = s.receiver ∧
    (s.settleReport b outcome).transmitter = s.transmitter ∧ (s.settleReport b outcome).peers = s.peers ∧
    (s.settleReport b outcome).causes = s.causes ∧ (s.settleReport b outcome).freeCount = s.freeCount ∧
    (s.settleReport b outcome).pending = s.pending := by
  cases b <;> simp [State.settleReport]

@[simp] theorem State.enqueue_frame (r : Record) :
    (s.enqueue r).rstnHigh = s.rstnHigh ∧ (s.enqueue r).pfailnHigh = s.pfailnHigh ∧ (s.enqueue r).port = s.port ∧
    (s.enqueue r).station = s.station ∧ (s.enqueue r).items = s.items ∧ (s.enqueue r).calendar = s.calendar ∧
    (s.enqueue r).timebase = s.timebase ∧ (s.enqueue r).meters = s.meters ∧ (s.enqueue r).converter = s.converter ∧
    (s.enqueue r).windows = s.windows ∧ (s.enqueue r).contexts = s.contexts ∧ (s.enqueue r).receiver = s.receiver ∧
    (s.enqueue r).transmitter = s.transmitter ∧ (s.enqueue r).peers = s.peers ∧
    (s.enqueue r).freeCount = s.freeCount ∧ (s.enqueue r).pending = s.pending := by
  simp [State.enqueue]

@[simp] theorem State.offerFinal_frame (r : Record) :
    (s.offerFinal r).rstnHigh = s.rstnHigh ∧ (s.offerFinal r).pfailnHigh = s.pfailnHigh ∧
    (s.offerFinal r).port = s.port ∧ (s.offerFinal r).station = s.station ∧ (s.offerFinal r).items = s.items ∧
    (s.offerFinal r).calendar = s.calendar ∧ (s.offerFinal r).timebase = s.timebase ∧
    (s.offerFinal r).meters = s.meters ∧ (s.offerFinal r).converter = s.converter ∧
    (s.offerFinal r).windows = s.windows ∧ (s.offerFinal r).contexts = s.contexts ∧
    (s.offerFinal r).receiver = s.receiver ∧ (s.offerFinal r).transmitter = s.transmitter ∧
    (s.offerFinal r).peers = s.peers ∧ (s.offerFinal r).freeCount = s.freeCount ∧
    (s.offerFinal r).pending = s.pending := by
  unfold State.offerFinal; split <;> simp

@[simp] theorem State.finishDay_frame :
    s.finishDay.rstnHigh = s.rstnHigh ∧ s.finishDay.pfailnHigh = s.pfailnHigh ∧ s.finishDay.port = s.port ∧
    s.finishDay.station = s.station ∧ s.finishDay.items = s.items ∧ s.finishDay.calendar = s.calendar ∧
    s.finishDay.timebase = s.timebase ∧ s.finishDay.meters = s.meters ∧ s.finishDay.converter = s.converter ∧
    s.finishDay.windows = s.windows ∧ s.finishDay.receiver = s.receiver ∧ s.finishDay.transmitter = s.transmitter ∧
    s.finishDay.peers = s.peers ∧ s.finishDay.freeCount = s.freeCount ∧ s.finishDay.pending = s.pending := by
  unfold State.finishDay; split <;> simp

@[simp] theorem State.closeWindow_frame (w : WindowEntry) :
    (s.closeWindow w).rstnHigh = s.rstnHigh ∧ (s.closeWindow w).pfailnHigh = s.pfailnHigh ∧
    (s.closeWindow w).port = s.port ∧ (s.closeWindow w).items = s.items ∧ (s.closeWindow w).calendar = s.calendar ∧
    (s.closeWindow w).timebase = s.timebase ∧ (s.closeWindow w).meters = s.meters ∧
    (s.closeWindow w).converter = s.converter ∧ (s.closeWindow w).windows = s.windows ∧
    (s.closeWindow w).receiver = s.receiver ∧ (s.closeWindow w).transmitter = s.transmitter ∧
    (s.closeWindow w).freeCount = s.freeCount ∧ (s.closeWindow w).pending = s.pending := by
  unfold State.closeWindow; dsimp only; split <;> simp

@[simp] theorem State.cycle_frame (hs hr cs cr : Sensor) :
    (s.cycle hs hr cs cr).rstnHigh = s.rstnHigh ∧ (s.cycle hs hr cs cr).pfailnHigh = s.pfailnHigh ∧
    (s.cycle hs hr cs cr).port = s.port ∧ (s.cycle hs hr cs cr).items = s.items ∧
    (s.cycle hs hr cs cr).calendar = s.calendar ∧ (s.cycle hs hr cs cr).contexts = s.contexts ∧
    (s.cycle hs hr cs cr).records = s.records ∧ (s.cycle hs hr cs cr).receiver = s.receiver ∧
    (s.cycle hs hr cs cr).transmitter = s.transmitter ∧ (s.cycle hs hr cs cr).peers = s.peers ∧
    (s.cycle hs hr cs cr).pending = s.pending := by
  simp [State.cycle]

@[simp] theorem State.boundaryWindows_frame (e : WindowEntry) :
    (s.boundaryWindows e).rstnHigh = s.rstnHigh ∧ (s.boundaryWindows e).pfailnHigh = s.pfailnHigh ∧
    (s.boundaryWindows e).port = s.port ∧ (s.boundaryWindows e).station = s.station ∧
    (s.boundaryWindows e).items = s.items ∧ (s.boundaryWindows e).calendar = s.calendar ∧
    (s.boundaryWindows e).timebase = s.timebase ∧ (s.boundaryWindows e).meters = s.meters ∧
    (s.boundaryWindows e).converter = s.converter ∧ (s.boundaryWindows e).contexts = s.contexts ∧
    (s.boundaryWindows e).records = s.records ∧ (s.boundaryWindows e).receiver = s.receiver ∧
    (s.boundaryWindows e).peers = s.peers ∧ (s.boundaryWindows e).freeCount = s.freeCount ∧
    (s.boundaryWindows e).pending = s.pending := by
  unfold State.boundaryWindows; dsimp only; split <;> simp

@[simp] theorem State.periodicNotice_frame (b : Bool) :
    (s.periodicNotice b).rstnHigh = s.rstnHigh ∧ (s.periodicNotice b).pfailnHigh = s.pfailnHigh ∧
    (s.periodicNotice b).port = s.port ∧ (s.periodicNotice b).items = s.items ∧
    (s.periodicNotice b).calendar = s.calendar ∧ (s.periodicNotice b).timebase = s.timebase ∧
    (s.periodicNotice b).meters = s.meters ∧ (s.periodicNotice b).converter = s.converter ∧
    (s.periodicNotice b).windows = s.windows ∧ (s.periodicNotice b).contexts = s.contexts ∧
    (s.periodicNotice b).records = s.records ∧ (s.periodicNotice b).receiver = s.receiver ∧
    (s.periodicNotice b).peers = s.peers ∧ (s.periodicNotice b).freeCount = s.freeCount ∧
    (s.periodicNotice b).pending = s.pending := by
  unfold State.periodicNotice; split <;> simp

@[simp] theorem State.boundary_frame :
    s.boundary.rstnHigh = s.rstnHigh ∧ s.boundary.pfailnHigh = s.pfailnHigh ∧ s.boundary.port = s.port ∧
    s.boundary.items = s.items ∧ s.boundary.calendar = s.calendar ∧ s.boundary.meters = s.meters ∧
    s.boundary.converter = s.converter ∧ s.boundary.contexts = s.contexts ∧ s.boundary.records = s.records ∧
    s.boundary.receiver = s.receiver ∧ s.boundary.peers = s.peers ∧ s.boundary.pending = s.pending := by
  unfold State.boundary; dsimp only; split <;> simp

@[simp] theorem State.withdrawStale_frame :
    s.withdrawStale.rstnHigh = s.rstnHigh ∧ s.withdrawStale.pfailnHigh = s.pfailnHigh ∧
    s.withdrawStale.port = s.port ∧ s.withdrawStale.station = s.station ∧ s.withdrawStale.items = s.items ∧
    s.withdrawStale.calendar = s.calendar ∧ s.withdrawStale.timebase = s.timebase ∧
    s.withdrawStale.meters = s.meters ∧ s.withdrawStale.converter = s.converter ∧
    s.withdrawStale.windows = s.windows ∧ s.withdrawStale.contexts = s.contexts ∧
    s.withdrawStale.records = s.records ∧ s.withdrawStale.receiver = s.receiver ∧ s.withdrawStale.peers = s.peers ∧
    s.withdrawStale.freeCount = s.freeCount ∧ s.withdrawStale.pending = s.pending := by
  simp [State.withdrawStale]

@[simp] theorem State.settleAtExpiry_frame (st : ReportStatus) :
    (s.settleAtExpiry st).rstnHigh = s.rstnHigh ∧ (s.settleAtExpiry st).pfailnHigh = s.pfailnHigh ∧
    (s.settleAtExpiry st).port = s.port ∧ (s.settleAtExpiry st).station = s.station ∧
    (s.settleAtExpiry st).items = s.items ∧ (s.settleAtExpiry st).calendar = s.calendar ∧
    (s.settleAtExpiry st).timebase = s.timebase ∧ (s.settleAtExpiry st).meters = s.meters ∧
    (s.settleAtExpiry st).converter = s.converter ∧ (s.settleAtExpiry st).windows = s.windows ∧
    (s.settleAtExpiry st).contexts = s.contexts ∧ (s.settleAtExpiry st).records = s.records ∧
    (s.settleAtExpiry st).receiver = s.receiver ∧ (s.settleAtExpiry st).peers = s.peers ∧
    (s.settleAtExpiry st).freeCount = s.freeCount ∧ (s.settleAtExpiry st).pending = s.pending := by
  unfold State.settleAtExpiry; split <;> (try split) <;> simp

@[simp] theorem State.graceExpiry_frame :
    s.graceExpiry.rstnHigh = s.rstnHigh ∧ s.graceExpiry.pfailnHigh = s.pfailnHigh ∧ s.graceExpiry.port = s.port ∧
    s.graceExpiry.items = s.items ∧ s.graceExpiry.calendar = s.calendar ∧ s.graceExpiry.meters = s.meters ∧
    s.graceExpiry.converter = s.converter ∧ s.graceExpiry.receiver = s.receiver ∧
    s.graceExpiry.freeCount = s.freeCount ∧ s.graceExpiry.pending = s.pending := by
  unfold State.graceExpiry; dsimp only; split <;> simp

@[simp] theorem State.handNotice_frame (n : PresenceNotice) :
    (s.handNotice n).rstnHigh = s.rstnHigh ∧ (s.handNotice n).pfailnHigh = s.pfailnHigh ∧
    (s.handNotice n).port = s.port ∧ (s.handNotice n).station = s.station ∧ (s.handNotice n).items = s.items ∧
    (s.handNotice n).calendar = s.calendar ∧ (s.handNotice n).timebase = s.timebase ∧
    (s.handNotice n).meters = s.meters ∧ (s.handNotice n).converter = s.converter ∧
    (s.handNotice n).windows = s.windows ∧ (s.handNotice n).contexts = s.contexts ∧
    (s.handNotice n).records = s.records ∧ (s.handNotice n).receiver = s.receiver ∧
    (s.handNotice n).transmitter = s.transmitter ∧ (s.handNotice n).freeCount = s.freeCount ∧
    (s.handNotice n).pending = s.pending := by
  simp [State.handNotice]

@[simp] theorem State.handReport_frame (r : WindowReport) :
    (s.handReport r).rstnHigh = s.rstnHigh ∧ (s.handReport r).pfailnHigh = s.pfailnHigh ∧
    (s.handReport r).port = s.port ∧ (s.handReport r).station = s.station ∧ (s.handReport r).items = s.items ∧
    (s.handReport r).calendar = s.calendar ∧ (s.handReport r).timebase = s.timebase ∧
    (s.handReport r).meters = s.meters ∧ (s.handReport r).converter = s.converter ∧
    (s.handReport r).records = s.records ∧ (s.handReport r).transmitter = s.transmitter ∧
    (s.handReport r).freeCount = s.freeCount ∧ (s.handReport r).pending = s.pending := by
  unfold State.handReport; dsimp only; split <;> simp

@[simp] theorem State.dispatchLineTest_frame (p : List Octet) :
    (s.dispatchLineTest p).rstnHigh = s.rstnHigh ∧ (s.dispatchLineTest p).pfailnHigh = s.pfailnHigh ∧
    (s.dispatchLineTest p).port = s.port ∧ (s.dispatchLineTest p).station = s.station ∧
    (s.dispatchLineTest p).items = s.items ∧ (s.dispatchLineTest p).calendar = s.calendar ∧
    (s.dispatchLineTest p).timebase = s.timebase ∧ (s.dispatchLineTest p).meters = s.meters ∧
    (s.dispatchLineTest p).converter = s.converter ∧ (s.dispatchLineTest p).windows = s.windows ∧
    (s.dispatchLineTest p).contexts = s.contexts ∧ (s.dispatchLineTest p).records = s.records ∧
    (s.dispatchLineTest p).transmitter = s.transmitter ∧ (s.dispatchLineTest p).peers = s.peers ∧
    (s.dispatchLineTest p).causes = s.causes ∧ (s.dispatchLineTest p).freeCount = s.freeCount ∧
    (s.dispatchLineTest p).pending = s.pending := by
  unfold State.dispatchLineTest; split <;> (try split) <;> simp

@[simp] theorem State.dispatchFromPeer_frame (k : Octet) (p : List Octet) :
    (s.dispatchFromPeer k p).rstnHigh = s.rstnHigh ∧ (s.dispatchFromPeer k p).pfailnHigh = s.pfailnHigh ∧
    (s.dispatchFromPeer k p).port = s.port ∧ (s.dispatchFromPeer k p).station = s.station ∧
    (s.dispatchFromPeer k p).items = s.items ∧ (s.dispatchFromPeer k p).calendar = s.calendar ∧
    (s.dispatchFromPeer k p).timebase = s.timebase ∧ (s.dispatchFromPeer k p).meters = s.meters ∧
    (s.dispatchFromPeer k p).converter = s.converter ∧ (s.dispatchFromPeer k p).records = s.records ∧
    (s.dispatchFromPeer k p).transmitter = s.transmitter ∧ (s.dispatchFromPeer k p).freeCount = s.freeCount ∧
    (s.dispatchFromPeer k p).pending = s.pending := by
  unfold State.dispatchFromPeer; dsimp only; repeat' split
  all_goals simp

@[simp] theorem State.dispatch_frame (k : Octet) (p : List Octet) :
    (s.dispatch k p).rstnHigh = s.rstnHigh ∧ (s.dispatch k p).pfailnHigh = s.pfailnHigh ∧
    (s.dispatch k p).port = s.port ∧ (s.dispatch k p).station = s.station ∧ (s.dispatch k p).items = s.items ∧
    (s.dispatch k p).calendar = s.calendar ∧ (s.dispatch k p).timebase = s.timebase ∧
    (s.dispatch k p).meters = s.meters ∧ (s.dispatch k p).converter = s.converter ∧
    (s.dispatch k p).records = s.records ∧ (s.dispatch k p).transmitter = s.transmitter ∧
    (s.dispatch k p).freeCount = s.freeCount ∧ (s.dispatch k p).pending = s.pending := by
  unfold State.dispatch; split <;> (try split) <;> simp

@[simp] theorem State.judge_frame :
    s.judge.rstnHigh = s.rstnHigh ∧ s.judge.pfailnHigh = s.pfailnHigh ∧ s.judge.port = s.port ∧
    s.judge.station = s.station ∧ s.judge.items = s.items ∧ s.judge.calendar = s.calendar ∧
    s.judge.timebase = s.timebase ∧ s.judge.meters = s.meters ∧ s.judge.converter = s.converter ∧
    s.judge.records = s.records ∧ s.judge.transmitter = s.transmitter ∧ s.judge.freeCount = s.freeCount ∧
    s.judge.pending = s.pending := by
  unfold State.judge; split <;> simp

@[simp] theorem State.judgeWaiting_frame :
    s.judgeWaiting.rstnHigh = s.rstnHigh ∧ s.judgeWaiting.pfailnHigh = s.pfailnHigh ∧ s.judgeWaiting.port = s.port ∧
    s.judgeWaiting.station = s.station ∧ s.judgeWaiting.items = s.items ∧ s.judgeWaiting.calendar = s.calendar ∧
    s.judgeWaiting.timebase = s.timebase ∧ s.judgeWaiting.meters = s.meters ∧
    s.judgeWaiting.converter = s.converter ∧ s.judgeWaiting.records = s.records ∧
    s.judgeWaiting.transmitter = s.transmitter ∧ s.judgeWaiting.freeCount = s.freeCount ∧
    s.judgeWaiting.pending = s.pending := by
  unfold State.judgeWaiting; split <;> simp

@[simp] theorem State.impliedStartBit_frame :
    s.impliedStartBit.rstnHigh = s.rstnHigh ∧ s.impliedStartBit.pfailnHigh = s.pfailnHigh ∧
    s.impliedStartBit.port = s.port ∧ s.impliedStartBit.station = s.station ∧ s.impliedStartBit.items = s.items ∧
    s.impliedStartBit.calendar = s.calendar ∧ s.impliedStartBit.timebase = s.timebase ∧
    s.impliedStartBit.meters = s.meters ∧ s.impliedStartBit.converter = s.converter ∧
    s.impliedStartBit.windows = s.windows ∧ s.impliedStartBit.contexts = s.contexts ∧
    s.impliedStartBit.records = s.records ∧ s.impliedStartBit.peers = s.peers ∧ s.impliedStartBit.causes = s.causes ∧
    s.impliedStartBit.freeCount = s.freeCount ∧ s.impliedStartBit.pending = s.pending := by
  unfold State.impliedStartBit; split <;> simp

@[simp] theorem State.character_frame (o : Octet) (b : Bool) :
    (s.character o b).rstnHigh = s.rstnHigh ∧ (s.character o b).pfailnHigh = s.pfailnHigh ∧
    (s.character o b).port = s.port ∧ (s.character o b).station = s.station ∧ (s.character o b).items = s.items ∧
    (s.character o b).calendar = s.calendar ∧ (s.character o b).timebase = s.timebase ∧
    (s.character o b).meters = s.meters ∧ (s.character o b).converter = s.converter ∧
    (s.character o b).records = s.records ∧ (s.character o b).freeCount = s.freeCount ∧
    (s.character o b).pending = s.pending := by
  simp [State.character]

@[simp] theorem State.idleGap_frame :
    s.idleGap.rstnHigh = s.rstnHigh ∧ s.idleGap.pfailnHigh = s.pfailnHigh ∧ s.idleGap.port = s.port ∧
    s.idleGap.station = s.station ∧ s.idleGap.items = s.items ∧ s.idleGap.calendar = s.calendar ∧
    s.idleGap.timebase = s.timebase ∧ s.idleGap.meters = s.meters ∧ s.idleGap.converter = s.converter ∧
    s.idleGap.records = s.records ∧ s.idleGap.freeCount = s.freeCount ∧ s.idleGap.pending = s.pending := by
  unfold State.idleGap; dsimp only; split <;> simp

@[simp] theorem State.reportGivenUp_frame (k : ReportContent) :
    (s.reportGivenUp k).rstnHigh = s.rstnHigh ∧ (s.reportGivenUp k).pfailnHigh = s.pfailnHigh ∧
    (s.reportGivenUp k).port = s.port ∧ (s.reportGivenUp k).station = s.station ∧
    (s.reportGivenUp k).items = s.items ∧ (s.reportGivenUp k).calendar = s.calendar ∧
    (s.reportGivenUp k).timebase = s.timebase ∧ (s.reportGivenUp k).meters = s.meters ∧
    (s.reportGivenUp k).converter = s.converter ∧ (s.reportGivenUp k).contexts = s.contexts ∧
    (s.reportGivenUp k).records = s.records ∧ (s.reportGivenUp k).receiver = s.receiver ∧
    (s.reportGivenUp k).transmitter = s.transmitter ∧ (s.reportGivenUp k).peers = s.peers ∧
    (s.reportGivenUp k).causes = s.causes ∧ (s.reportGivenUp k).freeCount = s.freeCount ∧
    (s.reportGivenUp k).pending = s.pending := by
  cases k <;> simp [State.reportGivenUp]

@[simp] theorem State.expiredCollision_frame :
    s.expiredCollision.rstnHigh = s.rstnHigh ∧ s.expiredCollision.pfailnHigh = s.pfailnHigh ∧
    s.expiredCollision.port = s.port ∧ s.expiredCollision.station = s.station ∧ s.expiredCollision.items = s.items ∧
    s.expiredCollision.calendar = s.calendar ∧ s.expiredCollision.timebase = s.timebase ∧
    s.expiredCollision.meters = s.meters ∧ s.expiredCollision.converter = s.converter ∧
    s.expiredCollision.contexts = s.contexts ∧ s.expiredCollision.records = s.records ∧
    s.expiredCollision.receiver = s.receiver ∧ s.expiredCollision.peers = s.peers ∧
    s.expiredCollision.freeCount = s.freeCount ∧ s.expiredCollision.pending = s.pending := by
  simp [State.expiredCollision]

@[simp] theorem State.reportCollision_frame (r : ReportSlot) :
    (s.reportCollision r).rstnHigh = s.rstnHigh ∧ (s.reportCollision r).pfailnHigh = s.pfailnHigh ∧
    (s.reportCollision r).port = s.port ∧ (s.reportCollision r).station = s.station ∧
    (s.reportCollision r).items = s.items ∧ (s.reportCollision r).calendar = s.calendar ∧
    (s.reportCollision r).timebase = s.timebase ∧ (s.reportCollision r).meters = s.meters ∧
    (s.reportCollision r).converter = s.converter ∧ (s.reportCollision r).contexts = s.contexts ∧
    (s.reportCollision r).records = s.records ∧ (s.reportCollision r).receiver = s.receiver ∧
    (s.reportCollision r).peers = s.peers ∧ (s.reportCollision r).freeCount = s.freeCount ∧
    (s.reportCollision r).pending = s.pending := by
  unfold State.reportCollision; split <;> (try split) <;> simp

@[simp] theorem State.noticeCollision_frame (n : NoticeSlot) :
    (s.noticeCollision n).rstnHigh = s.rstnHigh ∧ (s.noticeCollision n).pfailnHigh = s.pfailnHigh ∧
    (s.noticeCollision n).port = s.port ∧ (s.noticeCollision n).items = s.items ∧
    (s.noticeCollision n).calendar = s.calendar ∧ (s.noticeCollision n).timebase = s.timebase ∧
    (s.noticeCollision n).meters = s.meters ∧ (s.noticeCollision n).converter = s.converter ∧
    (s.noticeCollision n).windows = s.windows ∧ (s.noticeCollision n).contexts = s.contexts ∧
    (s.noticeCollision n).records = s.records ∧ (s.noticeCollision n).receiver = s.receiver ∧
    (s.noticeCollision n).peers = s.peers ∧ (s.noticeCollision n).freeCount = s.freeCount ∧
    (s.noticeCollision n).pending = s.pending := by
  unfold State.noticeCollision; split <;> (try split) <;> simp

@[simp] theorem State.frameCollision_frame (x : Option Slot) :
    (s.frameCollision x).rstnHigh = s.rstnHigh ∧ (s.frameCollision x).pfailnHigh = s.pfailnHigh ∧
    (s.frameCollision x).port = s.port ∧ (s.frameCollision x).items = s.items ∧
    (s.frameCollision x).calendar = s.calendar ∧ (s.frameCollision x).timebase = s.timebase ∧
    (s.frameCollision x).meters = s.meters ∧ (s.frameCollision x).converter = s.converter ∧
    (s.frameCollision x).contexts = s.contexts ∧ (s.frameCollision x).records = s.records ∧
    (s.frameCollision x).receiver = s.receiver ∧ (s.frameCollision x).peers = s.peers ∧
    (s.frameCollision x).freeCount = s.freeCount ∧ (s.frameCollision x).pending = s.pending := by
  unfold State.frameCollision; split <;> simp

@[simp] theorem State.readColliding_frame :
    s.readColliding.rstnHigh = s.rstnHigh ∧ s.readColliding.pfailnHigh = s.pfailnHigh ∧
    s.readColliding.port = s.port ∧ s.readColliding.station = s.station ∧ s.readColliding.items = s.items ∧
    s.readColliding.calendar = s.calendar ∧ s.readColliding.timebase = s.timebase ∧
    s.readColliding.meters = s.meters ∧ s.readColliding.converter = s.converter ∧
    s.readColliding.records = s.records ∧ s.readColliding.pending = s.pending := by
  unfold State.readColliding; repeat' split
  all_goals simp

@[simp] theorem State.collide_frame :
    s.collide.rstnHigh = s.rstnHigh ∧ s.collide.pfailnHigh = s.pfailnHigh ∧ s.collide.port = s.port ∧
    s.collide.items = s.items ∧ s.collide.calendar = s.calendar ∧ s.collide.timebase = s.timebase ∧
    s.collide.meters = s.meters ∧ s.collide.converter = s.converter ∧ s.collide.records = s.records ∧
    s.collide.pending = s.pending := by
  simp [State.collide]

@[simp] theorem State.reportSent_frame (r : ReportSlot) :
    (s.reportSent r).rstnHigh = s.rstnHigh ∧ (s.reportSent r).pfailnHigh = s.pfailnHigh ∧
    (s.reportSent r).port = s.port ∧ (s.reportSent r).station = s.station ∧ (s.reportSent r).items = s.items ∧
    (s.reportSent r).calendar = s.calendar ∧ (s.reportSent r).timebase = s.timebase ∧
    (s.reportSent r).meters = s.meters ∧ (s.reportSent r).converter = s.converter ∧
    (s.reportSent r).contexts = s.contexts ∧ (s.reportSent r).records = s.records ∧
    (s.reportSent r).receiver = s.receiver ∧ (s.reportSent r).peers = s.peers ∧ (s.reportSent r).causes = s.causes ∧
    (s.reportSent r).freeCount = s.freeCount ∧ (s.reportSent r).pending = s.pending := by
  unfold State.reportSent; dsimp only; split <;> simp

@[simp] theorem State.noticeSent_frame (n : NoticeSlot) :
    (s.noticeSent n).rstnHigh = s.rstnHigh ∧ (s.noticeSent n).pfailnHigh = s.pfailnHigh ∧
    (s.noticeSent n).port = s.port ∧ (s.noticeSent n).items = s.items ∧ (s.noticeSent n).calendar = s.calendar ∧
    (s.noticeSent n).timebase = s.timebase ∧ (s.noticeSent n).meters = s.meters ∧
    (s.noticeSent n).converter = s.converter ∧ (s.noticeSent n).windows = s.windows ∧
    (s.noticeSent n).contexts = s.contexts ∧ (s.noticeSent n).records = s.records ∧
    (s.noticeSent n).receiver = s.receiver ∧ (s.noticeSent n).peers = s.peers ∧ (s.noticeSent n).causes = s.causes ∧
    (s.noticeSent n).freeCount = s.freeCount ∧ (s.noticeSent n).pending = s.pending := by
  simp [State.noticeSent]

@[simp] theorem State.frameSent_frame (x : Option Slot) :
    (s.frameSent x).rstnHigh = s.rstnHigh ∧ (s.frameSent x).pfailnHigh = s.pfailnHigh ∧
    (s.frameSent x).port = s.port ∧ (s.frameSent x).items = s.items ∧ (s.frameSent x).calendar = s.calendar ∧
    (s.frameSent x).timebase = s.timebase ∧ (s.frameSent x).meters = s.meters ∧
    (s.frameSent x).converter = s.converter ∧ (s.frameSent x).contexts = s.contexts ∧
    (s.frameSent x).records = s.records ∧ (s.frameSent x).receiver = s.receiver ∧ (s.frameSent x).peers = s.peers ∧
    (s.frameSent x).causes = s.causes ∧ (s.frameSent x).freeCount = s.freeCount ∧
    (s.frameSent x).pending = s.pending := by
  unfold State.frameSent; split <;> simp

@[simp] theorem State.readBackRest_frame :
    s.readBackRest.rstnHigh = s.rstnHigh ∧ s.readBackRest.pfailnHigh = s.pfailnHigh ∧ s.readBackRest.port = s.port ∧
    s.readBackRest.station = s.station ∧ s.readBackRest.items = s.items ∧ s.readBackRest.calendar = s.calendar ∧
    s.readBackRest.timebase = s.timebase ∧ s.readBackRest.meters = s.meters ∧
    s.readBackRest.converter = s.converter ∧ s.readBackRest.records = s.records ∧
    s.readBackRest.freeCount = s.freeCount ∧ s.readBackRest.pending = s.pending := by
  unfold State.readBackRest; split
  · simp
  · next h =>
    clear h
    generalize s.transmitter.octetsLeft = l
    induction l generalizing s with
    | nil => simp
    | cons o l ih => simp [ih]

@[simp] theorem State.succeed_frame :
    s.succeed.rstnHigh = s.rstnHigh ∧ s.succeed.pfailnHigh = s.pfailnHigh ∧ s.succeed.port = s.port ∧
    s.succeed.items = s.items ∧ s.succeed.calendar = s.calendar ∧ s.succeed.timebase = s.timebase ∧
    s.succeed.meters = s.meters ∧ s.succeed.converter = s.converter ∧ s.succeed.records = s.records ∧
    s.succeed.freeCount = s.freeCount ∧ s.succeed.pending = s.pending := by
  simp [State.succeed]

@[simp] theorem State.commissionLine_frame :
    s.commissionLine.rstnHigh = s.rstnHigh ∧ s.commissionLine.pfailnHigh = s.pfailnHigh ∧
    s.commissionLine.port = s.port ∧ s.commissionLine.station = s.station ∧ s.commissionLine.items = s.items ∧
    s.commissionLine.calendar = s.calendar ∧ s.commissionLine.timebase = s.timebase ∧
    s.commissionLine.meters = s.meters ∧ s.commissionLine.converter = s.converter ∧
    s.commissionLine.windows = s.windows ∧ s.commissionLine.contexts = s.contexts ∧
    s.commissionLine.records = s.records ∧ s.commissionLine.peers = s.peers ∧ s.commissionLine.causes = s.causes ∧
    s.commissionLine.freeCount = s.freeCount ∧ s.commissionLine.pending = s.pending := by
  simp [State.commissionLine]

@[simp] theorem State.withdrawExpired_frame :
    s.withdrawExpired.rstnHigh = s.rstnHigh ∧ s.withdrawExpired.pfailnHigh = s.pfailnHigh ∧
    s.withdrawExpired.port = s.port ∧ s.withdrawExpired.station = s.station ∧ s.withdrawExpired.items = s.items ∧
    s.withdrawExpired.calendar = s.calendar ∧ s.withdrawExpired.timebase = s.timebase ∧
    s.withdrawExpired.meters = s.meters ∧ s.withdrawExpired.converter = s.converter ∧
    s.withdrawExpired.contexts = s.contexts ∧ s.withdrawExpired.records = s.records ∧
    s.withdrawExpired.receiver = s.receiver ∧ s.withdrawExpired.transmitter = s.transmitter ∧
    s.withdrawExpired.peers = s.peers ∧ s.withdrawExpired.causes = s.causes ∧
    s.withdrawExpired.freeCount = s.freeCount ∧ s.withdrawExpired.pending = s.pending := by
  unfold State.withdrawExpired; split <;> simp

@[simp] theorem State.quietNoticeDropped_frame :
    s.quietNoticeDropped.rstnHigh = s.rstnHigh ∧ s.quietNoticeDropped.pfailnHigh = s.pfailnHigh ∧
    s.quietNoticeDropped.port = s.port ∧ s.quietNoticeDropped.items = s.items ∧
    s.quietNoticeDropped.calendar = s.calendar ∧ s.quietNoticeDropped.timebase = s.timebase ∧
    s.quietNoticeDropped.meters = s.meters ∧ s.quietNoticeDropped.converter = s.converter ∧
    s.quietNoticeDropped.windows = s.windows ∧ s.quietNoticeDropped.contexts = s.contexts ∧
    s.quietNoticeDropped.records = s.records ∧ s.quietNoticeDropped.receiver = s.receiver ∧
    s.quietNoticeDropped.transmitter = s.transmitter ∧ s.quietNoticeDropped.peers = s.peers ∧
    s.quietNoticeDropped.causes = s.causes ∧ s.quietNoticeDropped.freeCount = s.freeCount ∧
    s.quietNoticeDropped.pending = s.pending := by
  unfold State.quietNoticeDropped; split <;> simp

@[simp] theorem State.enterBackup_frame :
    s.enterBackup.rstnHigh = s.rstnHigh ∧ s.enterBackup.pfailnHigh = s.pfailnHigh ∧ s.enterBackup.port = s.port ∧
    s.enterBackup.items = s.items ∧ s.enterBackup.calendar = s.calendar ∧ s.enterBackup.timebase = s.timebase ∧
    s.enterBackup.meters = s.meters ∧ s.enterBackup.contexts = s.contexts ∧ s.enterBackup.records = s.records ∧
    s.enterBackup.peers = s.peers ∧ s.enterBackup.freeCount = s.freeCount ∧ s.enterBackup.pending = s.pending := by
  simp [State.enterBackup]

@[simp] theorem State.returnToMains_frame :
    s.returnToMains.rstnHigh = s.rstnHigh ∧ s.returnToMains.pfailnHigh = s.pfailnHigh ∧
    s.returnToMains.port = s.port ∧ s.returnToMains.items = s.items ∧ s.returnToMains.calendar = s.calendar ∧
    s.returnToMains.timebase = s.timebase ∧ s.returnToMains.meters = s.meters ∧
    s.returnToMains.converter = s.converter ∧ s.returnToMains.windows = s.windows ∧
    s.returnToMains.contexts = s.contexts ∧ s.returnToMains.records = s.records ∧ s.returnToMains.peers = s.peers ∧
    s.returnToMains.freeCount = s.freeCount ∧ s.returnToMains.pending = s.pending := by
  simp [State.returnToMains]

@[simp] theorem State.leaveBackup_frame :
    s.leaveBackup.rstnHigh = s.rstnHigh ∧ s.leaveBackup.pfailnHigh = s.pfailnHigh ∧ s.leaveBackup.port = s.port ∧
    s.leaveBackup.items = s.items ∧ s.leaveBackup.calendar = s.calendar ∧ s.leaveBackup.timebase = s.timebase ∧
    s.leaveBackup.meters = s.meters ∧ s.leaveBackup.windows = s.windows ∧ s.leaveBackup.contexts = s.contexts ∧
    s.leaveBackup.records = s.records ∧ s.leaveBackup.peers = s.peers ∧ s.leaveBackup.freeCount = s.freeCount ∧
    s.leaveBackup.pending = s.pending := by
  unfold State.leaveBackup; dsimp only; split <;> simp

@[simp] theorem State.rateChanged_frame (k : Octet) (x : Status) :
    (s.rateChanged k x).rstnHigh = s.rstnHigh ∧ (s.rateChanged k x).pfailnHigh = s.pfailnHigh ∧
    (s.rateChanged k x).port = s.port ∧ (s.rateChanged k x).station = s.station ∧
    (s.rateChanged k x).items = s.items ∧ (s.rateChanged k x).calendar = s.calendar ∧
    (s.rateChanged k x).timebase = s.timebase ∧ (s.rateChanged k x).meters = s.meters ∧
    (s.rateChanged k x).converter = s.converter ∧ (s.rateChanged k x).windows = s.windows ∧
    (s.rateChanged k x).contexts = s.contexts ∧ (s.rateChanged k x).records = s.records ∧
    (s.rateChanged k x).peers = s.peers ∧ (s.rateChanged k x).causes = s.causes ∧
    (s.rateChanged k x).freeCount = s.freeCount ∧ (s.rateChanged k x).pending = s.pending := by
  unfold State.rateChanged; split <;> simp

@[simp] theorem State.tick_frame :
    s.tick.rstnHigh = s.rstnHigh ∧ s.tick.pfailnHigh = s.pfailnHigh ∧ s.tick.port = s.port ∧
    s.tick.station = s.station ∧ s.tick.items = s.items ∧ s.tick.calendar = s.calendar ∧ s.tick.meters = s.meters ∧
    s.tick.converter = s.converter ∧ s.tick.windows = s.windows ∧ s.tick.contexts = s.contexts ∧
    s.tick.records = s.records ∧ s.tick.peers = s.peers ∧ s.tick.causes = s.causes ∧ s.tick.freeCount = s.freeCount ∧
    s.tick.pending = s.pending := by
  unfold State.tick; dsimp only; split <;> simp

end Sys2Proof.Machine
end

