-- ==== Sys2Proof/Laws/Line.lean ====
section
/-! SUPPORT. What the shared operations of the peer line keep of the transmitter, the receiver and the station state. -/

namespace Sys2Proof.Machine

variable (s : State)

/-! ### The transmitter's operations -/

@[simp] theorem Transmitter.markStuckReported_kept (t : Transmitter) :
    t.markStuckReported.state = t.state ∧ t.markStuckReported.current = t.current ∧
    t.markStuckReported.followOn = t.followOn ∧ t.markStuckReported.backoffSlots = t.backoffSlots ∧
    t.markStuckReported.stuckTimer = t.stuckTimer ∧ t.markStuckReported.framesSent = t.framesSent ∧
    t.markStuckReported.collisions = t.collisions ∧ t.markStuckReported.giveUps = t.giveUps ∧
    t.markStuckReported.testMode = t.testMode ∧ t.markStuckReported.testSequence = t.testSequence ∧
    t.markStuckReported.readBack = t.readBack ∧ t.markStuckReported.lastFailure = t.lastFailure ∧
    t.markStuckReported.report.isSome = t.report.isSome ∧ t.markStuckReported.notice.isSome = t.notice.isSome := by
  unfold Transmitter.markStuckReported; split <;> simp

/-- The stuck mark changes no frame's content, attempt count, seed or expired mark. -/
theorem Transmitter.markStuckReported_report (t : Transmitter) (r : ReportSlot)
    (h : t.markStuckReported.report = some r) :
    ∃ q, t.report = some q ∧ q.content = r.content ∧ q.attempts = r.attempts ∧ q.seed = r.seed ∧
      q.expired = r.expired := by
  unfold Transmitter.markStuckReported at h
  split at h
  · simp only [Option.map_eq_some_iff] at h
    obtain ⟨q, hq, rfl⟩ := h
    exact ⟨q, hq, rfl, rfl, rfl, rfl⟩
  · exact ⟨r, h, rfl, rfl, rfl, rfl⟩
  · exact ⟨r, h, rfl, rfl, rfl, rfl⟩

theorem Transmitter.markStuckReported_notice (t : Transmitter) (n : NoticeSlot)
    (h : t.markStuckReported.notice = some n) :
    ∃ q, t.notice = some q ∧ q.notice = n.notice ∧ q.attempts = n.attempts ∧ q.seed = n.seed := by
  unfold Transmitter.markStuckReported at h
  split at h
  · exact ⟨n, h, rfl, rfl, rfl⟩
  · simp only [Option.map_eq_some_iff] at h
    obtain ⟨q, hq, rfl⟩ := h
    exact ⟨q, hq, rfl, rfl, rfl⟩
  · exact ⟨n, h, rfl, rfl, rfl⟩

@[simp] theorem Transmitter.becomeIdle_kept (t : Transmitter) :
    t.becomeIdle.report = t.report ∧ t.becomeIdle.notice = t.notice ∧ t.becomeIdle.followOn = t.followOn ∧
    t.becomeIdle.lastFailure = t.lastFailure ∧ t.becomeIdle.framesSent = t.framesSent ∧
    t.becomeIdle.collisions = t.collisions ∧ t.becomeIdle.giveUps = t.giveUps ∧
    t.becomeIdle.testMode = t.testMode ∧ t.becomeIdle.testSequence = t.testSequence ∧
    t.becomeIdle.readBack = t.readBack := by
  simp [Transmitter.becomeIdle]

@[simp] theorem Transmitter.notCurrent_kept (t : Transmitter) (x : Slot) :
    (t.notCurrent x).state = t.state ∧ (t.notCurrent x).report = t.report ∧ (t.notCurrent x).notice = t.notice ∧
    (t.notCurrent x).followOn = t.followOn ∧ (t.notCurrent x).backoffSlots = t.backoffSlots ∧
    (t.notCurrent x).stuckTimer = t.stuckTimer ∧ (t.notCurrent x).lastFailure = t.lastFailure ∧
    (t.notCurrent x).framesSent = t.framesSent ∧ (t.notCurrent x).collisions = t.collisions ∧
    (t.notCurrent x).giveUps = t.giveUps ∧ (t.notCurrent x).testMode = t.testMode ∧
    (t.notCurrent x).testSequence = t.testSequence ∧ (t.notCurrent x).readBack = t.readBack := by
  unfold Transmitter.notCurrent; split <;> simp

@[simp] theorem State.reportStuck_kept :
    s.reportStuck.transmitter.state = s.transmitter.state ∧ s.reportStuck.transmitter.current = s.transmitter.current ∧
    s.reportStuck.transmitter.followOn = s.transmitter.followOn ∧
    s.reportStuck.transmitter.backoffSlots = s.transmitter.backoffSlots ∧
    s.reportStuck.transmitter.stuckTimer = s.transmitter.stuckTimer ∧
    s.reportStuck.transmitter.framesSent = s.transmitter.framesSent ∧
    s.reportStuck.transmitter.collisions = s.transmitter.collisions ∧
    s.reportStuck.transmitter.giveUps = s.transmitter.giveUps ∧
    s.reportStuck.transmitter.testMode = s.transmitter.testMode ∧
    s.reportStuck.transmitter.testSequence = s.transmitter.testSequence ∧
    s.reportStuck.transmitter.readBack = s.transmitter.readBack ∧
    s.reportStuck.transmitter.report.isSome = s.transmitter.report.isSome ∧
    s.reportStuck.transmitter.notice.isSome = s.transmitter.notice.isSome := by
  unfold State.reportStuck; split <;> simp

@[simp] theorem State.enterWaitIdle_kept :
    s.enterWaitIdle.transmitter.current = s.transmitter.current ∧
    s.enterWaitIdle.transmitter.followOn = s.transmitter.followOn ∧
    s.enterWaitIdle.transmitter.framesSent = s.transmitter.framesSent ∧
    s.enterWaitIdle.transmitter.collisions = s.transmitter.collisions ∧
    s.enterWaitIdle.transmitter.giveUps = s.transmitter.giveUps ∧
    s.enterWaitIdle.transmitter.testMode = s.transmitter.testMode ∧
    s.enterWaitIdle.transmitter.testSequence = s.transmitter.testSequence ∧
    s.enterWaitIdle.transmitter.readBack = s.transmitter.readBack ∧
    s.enterWaitIdle.transmitter.report.isSome = s.transmitter.report.isSome ∧
    s.enterWaitIdle.transmitter.notice.isSome = s.transmitter.notice.isSome := by
  unfold State.enterWaitIdle; split <;> simp [State.enterBackoff]

/-- R137: entering WAIT_IDLE ends in BACKOFF where the line already rests, in WAIT_IDLE otherwise. -/
theorem State.enterWaitIdle_state :
    s.enterWaitIdle.transmitter.state = if s.receiver.gapTimer = 4 then .backoff else .waitIdle := by
  unfold State.enterWaitIdle; split <;> simp [State.enterBackoff]

@[simp] theorem State.chooseCurrent_kept :
    s.chooseCurrent.transmitter.followOn = s.transmitter.followOn ∧
    s.chooseCurrent.transmitter.framesSent = s.transmitter.framesSent ∧
    s.chooseCurrent.transmitter.collisions = s.transmitter.collisions ∧
    s.chooseCurrent.transmitter.giveUps = s.transmitter.giveUps ∧
    s.chooseCurrent.transmitter.testMode = s.transmitter.testMode ∧
    s.chooseCurrent.transmitter.testSequence = s.transmitter.testSequence ∧
    s.chooseCurrent.transmitter.readBack = s.transmitter.readBack ∧
    s.chooseCurrent.transmitter.report.isSome = s.transmitter.report.isSome ∧
    s.chooseCurrent.transmitter.notice.isSome = s.transmitter.notice.isSome := by
  unfold State.chooseCurrent; repeat' split
  all_goals simp

theorem State.reportStuck_report (r : ReportSlot) (h : s.reportStuck.transmitter.report = some r) :
    ∃ q, s.transmitter.report = some q ∧ q.content = r.content ∧ q.attempts = r.attempts ∧ q.seed = r.seed ∧
      q.expired = r.expired := by
  unfold State.reportStuck at h
  split at h
  · exact Transmitter.markStuckReported_report _ r (by simpa using h)
  · exact ⟨r, h, rfl, rfl, rfl, rfl⟩

theorem State.reportStuck_notice (n : NoticeSlot) (h : s.reportStuck.transmitter.notice = some n) :
    ∃ q, s.transmitter.notice = some q ∧ q.notice = n.notice ∧ q.attempts = n.attempts ∧ q.seed = n.seed := by
  unfold State.reportStuck at h
  split at h
  · exact Transmitter.markStuckReported_notice _ n (by simpa using h)
  · exact ⟨n, h, rfl, rfl, rfl⟩

theorem State.enterWaitIdle_report (r : ReportSlot) (h : s.enterWaitIdle.transmitter.report = some r) :
    ∃ q, s.transmitter.report = some q ∧ q.content = r.content ∧ q.attempts = r.attempts ∧ q.seed = r.seed ∧
      q.expired = r.expired := by
  unfold State.enterWaitIdle at h
  split at h
  · exact ⟨r, h, rfl, rfl, rfl, rfl⟩
  · have k := State.reportStuck_report _ r h
    exact k

theorem State.enterWaitIdle_notice (n : NoticeSlot) (h : s.enterWaitIdle.transmitter.notice = some n) :
    ∃ q, s.transmitter.notice = some q ∧ q.notice = n.notice ∧ q.attempts = n.attempts ∧ q.seed = n.seed := by
  unfold State.enterWaitIdle at h
  split at h
  · exact ⟨n, h, rfl, rfl, rfl⟩
  · have k := State.reportStuck_notice _ n h
    exact k

/-- Choosing the current frame changes no queued frame but its stuck mark. -/
theorem State.chooseCurrent_report (r : ReportSlot) (h : s.chooseCurrent.transmitter.report = some r) :
    ∃ q, s.transmitter.report = some q ∧ q.content = r.content ∧ q.attempts = r.attempts ∧ q.seed = r.seed ∧
      q.expired = r.expired := by
  unfold State.chooseCurrent at h
  repeat' split at h
  · exact ⟨r, h, rfl, rfl, rfl, rfl⟩
  · exact ⟨r, h, rfl, rfl, rfl, rfl⟩
  · exact ⟨r, h, rfl, rfl, rfl, rfl⟩
  · have k := State.enterWaitIdle_report _ r h
    exact k

theorem State.chooseCurrent_notice (n : NoticeSlot) (h : s.chooseCurrent.transmitter.notice = some n) :
    ∃ q, s.transmitter.notice = some q ∧ q.notice = n.notice ∧ q.attempts = n.attempts ∧ q.seed = n.seed := by
  unfold State.chooseCurrent at h
  repeat' split at h
  · exact ⟨n, h, rfl, rfl, rfl⟩
  · exact ⟨n, h, rfl, rfl, rfl⟩
  · exact ⟨n, h, rfl, rfl, rfl⟩
  · have k := State.enterWaitIdle_notice _ n h
    exact k

/-- R133: after the choice, outside SENDING, the current frame is the wanted one and the transmitter is IDLE exactly when
there is none. -/
theorem State.chooseCurrent_current (h : s.transmitter.state ≠ .sending)
    (hi : s.transmitter.state = .idle → s.transmitter.current = none) :
    s.chooseCurrent.transmitter.current = s.transmitter.wanted ∧
      (s.chooseCurrent.transmitter.state = .idle ↔ s.transmitter.wanted = none) ∧
      s.chooseCurrent.transmitter.state ≠ .sending := by
  unfold State.chooseCurrent
  rw [if_neg h]
  split
  · next hw => simp [Transmitter.becomeIdle, hw]
  · next hw =>
    split
    · next hc =>
      refine ⟨hc.symm, ⟨fun hs => ?_, fun hs => absurd hs hw⟩, h⟩
      rw [hc]; exact hi hs
    · refine ⟨by simp, ?_, ?_⟩
      · rw [State.enterWaitIdle_state]
        constructor
        · intro hs; split at hs <;> cases hs
        · intro hs; exact absurd hs hw
      · rw [State.enterWaitIdle_state]
        split <;> simp

theorem State.chooseCurrent_sending (h : s.transmitter.state = .sending) : s.chooseCurrent = s := by
  simp [State.chooseCurrent, h]

@[simp] theorem State.endAttempt_kept :
    s.endAttempt.transmitter.state = .idle ∧ s.endAttempt.transmitter.current = none ∧
    s.endAttempt.transmitter.report = s.transmitter.report ∧ s.endAttempt.transmitter.notice = s.transmitter.notice ∧
    s.endAttempt.transmitter.followOn = s.transmitter.followOn ∧
    s.endAttempt.transmitter.backoffSlots = s.transmitter.backoffSlots ∧
    s.endAttempt.transmitter.stuckTimer = s.transmitter.stuckTimer ∧
    s.endAttempt.transmitter.lastFailure = s.transmitter.lastFailure ∧
    s.endAttempt.transmitter.framesSent = s.transmitter.framesSent ∧
    s.endAttempt.transmitter.collisions = s.transmitter.collisions ∧
    s.endAttempt.transmitter.giveUps = s.transmitter.giveUps ∧
    s.endAttempt.transmitter.testMode = s.transmitter.testMode ∧
    s.endAttempt.transmitter.testSequence = s.transmitter.testSequence ∧
    s.endAttempt.transmitter.readBack = .matched 0 := by
  simp [State.endAttempt]

@[simp] theorem State.dropLineTest_transmitter :
    s.dropLineTest.transmitter =
      { s.transmitter with
        state := .idle, report := none, current := none, backoffSlots := 0, stuckTimer := 0,
        readBack := .matched 0 } := rfl

@[simp] theorem State.restartReceiver_transmitter_kept :
    s.restartReceiver.transmitter.state = s.transmitter.state ∧
    s.restartReceiver.transmitter.report = s.transmitter.report ∧
    s.restartReceiver.transmitter.notice = s.transmitter.notice ∧
    s.restartReceiver.transmitter.followOn = s.transmitter.followOn ∧
    s.restartReceiver.transmitter.current = s.transmitter.current ∧
    s.restartReceiver.transmitter.backoffSlots = s.transmitter.backoffSlots ∧
    s.restartReceiver.transmitter.lastFailure = s.transmitter.lastFailure ∧
    s.restartReceiver.transmitter.framesSent = s.transmitter.framesSent ∧
    s.restartReceiver.transmitter.collisions = s.transmitter.collisions ∧
    s.restartReceiver.transmitter.giveUps = s.transmitter.giveUps ∧
    s.restartReceiver.transmitter.testMode = s.transmitter.testMode ∧
    s.restartReceiver.transmitter.testSequence = s.transmitter.testSequence ∧
    s.restartReceiver.transmitter.readBack = s.transmitter.readBack := by
  unfold State.restartReceiver; split <;> simp

/-- R113: the receiver after it has been put on or off: its counters as they were. -/
theorem State.restartReceiver_receiver :
    s.restartReceiver.receiver = if s.receiverOn then s.receiver.turnedOn else s.receiver.turnedOff := by
  unfold State.restartReceiver; split <;> rfl

/-! ### Line-test mode and sequence: what keeps them -/

@[simp] theorem State.queueReport_test (k : ReportContent) :
    (s.queueReport k).transmitter.testMode = s.transmitter.testMode ∧
    (s.queueReport k).transmitter.testSequence = s.transmitter.testSequence := by
  simp [State.queueReport]

@[simp] theorem State.requestNotice_test (a : NoticeState) :
    (s.requestNotice a).transmitter.testMode = s.transmitter.testMode ∧
    (s.requestNotice a).transmitter.testSequence = s.transmitter.testSequence := by
  unfold State.requestNotice State.noticeEnded State.endOfQuietNotice
  repeat' split
  all_goals simp

@[simp] theorem State.periodicNotice_test (b : Bool) :
    (s.periodicNotice b).transmitter.testMode = s.transmitter.testMode ∧
    (s.periodicNotice b).transmitter.testSequence = s.transmitter.testSequence := by
  unfold State.periodicNotice; split <;> simp

@[simp] theorem State.boundary_test :
    s.boundary.transmitter.testMode = s.transmitter.testMode ∧
    s.boundary.transmitter.testSequence = s.transmitter.testSequence := by
  unfold State.boundary State.boundaryWindows; dsimp only
  repeat' split
  all_goals simp

@[simp] theorem State.graceExpiry_test :
    s.graceExpiry.transmitter.testMode = s.transmitter.testMode ∧
    s.graceExpiry.transmitter.testSequence = s.transmitter.testSequence := by
  unfold State.graceExpiry State.settleAtExpiry State.withdrawStale Transmitter.markExpired; dsimp only
  repeat' split
  all_goals simp

@[simp] theorem State.startBit_test :
    s.startBit.transmitter.testMode = s.transmitter.testMode ∧
    s.startBit.transmitter.testSequence = s.transmitter.testSequence := by
  unfold State.startBit; dsimp only; split <;> simp

@[simp] theorem Transmitter.readOctet_kept (t : Transmitter) (o : Octet) (b : Bool) :
    (t.readOctet o b).state = t.state ∧ (t.readOctet o b).report = t.report ∧ (t.readOctet o b).notice = t.notice ∧
    (t.readOctet o b).followOn = t.followOn ∧ (t.readOctet o b).current = t.current ∧
    (t.readOctet o b).backoffSlots = t.backoffSlots ∧ (t.readOctet o b).stuckTimer = t.stuckTimer ∧
    (t.readOctet o b).lastFailure = t.lastFailure ∧ (t.readOctet o b).framesSent = t.framesSent ∧
    (t.readOctet o b).collisions = t.collisions ∧ (t.readOctet o b).giveUps = t.giveUps ∧
    (t.readOctet o b).testMode = t.testMode ∧ (t.readOctet o b).testSequence = t.testSequence := by
  unfold Transmitter.readOctet; split <;> simp

@[simp] theorem State.character_test (o : Octet) (b : Bool) :
    (s.character o b).transmitter.testMode = s.transmitter.testMode ∧
    (s.character o b).transmitter.testSequence = s.transmitter.testSequence := by
  unfold State.character State.impliedStartBit; dsimp only; split <;> simp

@[simp] theorem State.readBackRest_test :
    s.readBackRest.transmitter.testMode = s.transmitter.testMode ∧
    s.readBackRest.transmitter.testSequence = s.transmitter.testSequence := by
  unfold State.readBackRest
  split
  · simp
  · next h =>
    clear h
    generalize s.transmitter.octetsLeft = l
    induction l generalizing s with
    | nil => simp
    | cons o l ih => simp [ih]

@[simp] theorem State.idleGap_test :
    s.idleGap.transmitter.testMode = s.transmitter.testMode ∧
    s.idleGap.transmitter.testSequence = s.transmitter.testSequence := by
  unfold State.idleGap State.enterBackoff; dsimp only; split <;> simp

@[simp] theorem Transmitter.fill_kept (t : Transmitter) (n : Nat) :
    (t.fill n).state = t.state ∧ (t.fill n).followOn = t.followOn ∧ (t.fill n).current = t.current ∧
    (t.fill n).backoffSlots = t.backoffSlots ∧ (t.fill n).stuckTimer = t.stuckTimer ∧
    (t.fill n).lastFailure = t.lastFailure ∧ (t.fill n).framesSent = t.framesSent ∧
    (t.fill n).collisions = t.collisions ∧ (t.fill n).giveUps = t.giveUps ∧ (t.fill n).testMode = t.testMode ∧
    (t.fill n).testSequence = t.testSequence ∧ (t.fill n).readBack = t.readBack ∧
    (t.fill n).report.isSome = t.report.isSome ∧ (t.fill n).notice.isSome = t.notice.isSome := by
  unfold Transmitter.fill; split <;> simp

@[simp] theorem State.startSending_test :
    s.startSending.transmitter.testMode = s.transmitter.testMode ∧
    s.startSending.transmitter.testSequence = s.transmitter.testSequence := by
  simp [State.startSending]

@[simp] theorem State.frameCollision_test (x : Option Slot) :
    (s.frameCollision x).transmitter.testMode = s.transmitter.testMode ∧
    (s.frameCollision x).transmitter.testSequence = s.transmitter.testSequence := by
  unfold State.frameCollision State.reportCollision State.noticeCollision State.expiredCollision State.giveUp
    State.reportGivenUp State.noticeEnded State.endOfQuietNotice
  repeat' split
  all_goals simp

/-- R64: exactly when a report's grace expiry falls in the moment. -/
theorem State.expiryFollows_iff (content : ReportContent) :
    s.expiryFollows content = true ↔
      (∃ r, content = .windowReport r) ∧ s.timebase.due.graceExpiry = true ∧
        ∃ e, s.windows.graceEntry = some e ∧ e.reportStatus = .pending := by
  cases content <;> simp [State.expiryFollows]

/-- R111: a character lasts ten bit times. -/
@[simp] theorem characterLevels_length (o : Octet) : (characterLevels o).length = 10 := by simp [characterLevels]

/-- R139, R150: LTX rests at mark while LDE is low. -/
theorem State.ltx_of_not_lde (h : s.lde = false) (bit : Nat) : s.ltx bit = true := by simp [State.ltx, h]

/-- R140: what is read back at a collision is a collision, whatever the free values. -/
theorem State.collidingCharacter_collides (sent : Octet) :
    ¬((s.collidingCharacter sent).1 = sent ∧ (s.collidingCharacter sent).2 = true) := by
  unfold State.collidingCharacter; split <;> simp_all

/-- R114, R140: what reading back the colliding octet can do: nothing where one has differed or none is left; otherwise the
next octet completes as a character that collides, and one free value is drawn. -/
theorem State.readColliding_cases :
    s.readColliding = s ∨
    ∃ (n : Nat) (sent o : Octet) (b : Bool), s.transmitter.readBack = .matched n ∧ s.octetsSent[n]? = some sent ∧
      ¬(o = sent ∧ b = true) ∧ s.readColliding = { s.character o b with freeCount := s.freeCount + 1 } := by
  unfold State.readColliding
  split
  · exact .inl rfl
  · next n hn =>
    split
    · exact .inl rfl
    · next sent hs => exact .inr ⟨n, sent, _, _, hn, hs, s.collidingCharacter_collides sent, rfl⟩

@[simp] theorem State.readColliding_test :
    s.readColliding.transmitter.testMode = s.transmitter.testMode ∧
    s.readColliding.transmitter.testSequence = s.transmitter.testSequence := by
  unfold State.readColliding; repeat' split
  all_goals simp

@[simp] theorem State.collide_test :
    s.collide.transmitter.testMode = s.transmitter.testMode ∧
    s.collide.transmitter.testSequence = s.transmitter.testSequence := by
  simp [State.collide]

@[simp] theorem State.frameSent_test (x : Option Slot) :
    (s.frameSent x).transmitter.testMode = s.transmitter.testMode ∧
    (s.frameSent x).transmitter.testSequence = s.transmitter.testSequence := by
  unfold State.frameSent State.reportSent State.noticeSent State.noticeEnded State.endOfQuietNotice
  dsimp only
  repeat' split
  all_goals simp

@[simp] theorem State.succeed_test :
    s.succeed.transmitter.testMode = s.transmitter.testMode ∧
    s.succeed.transmitter.testSequence = s.transmitter.testSequence := by
  simp [State.succeed]

@[simp] theorem State.tick_test :
    s.tick.transmitter.testMode = s.transmitter.testMode ∧
    s.tick.transmitter.testSequence = s.transmitter.testSequence := by
  unfold State.tick; dsimp only; split <;> simp

@[simp] theorem Transmitter.enterBackup_test (t : Transmitter) :
    t.enterBackup.testMode = t.testMode ∧ t.enterBackup.testSequence = t.testSequence := by
  unfold Transmitter.enterBackup; dsimp only; split <;> simp

/-! ### The station's fields: what the end of a notice can change (R170) -/

/-- The end of a QUIET notice makes QUIETING QUIET and changes no other field of the controller. -/
theorem State.endOfQuietNotice_station :
    s.endOfQuietNotice.station =
      { s.station with state := if s.station.state = .quieting then .quiet else s.station.state } := by
  unfold State.endOfQuietNotice; split <;> simp [*]

@[simp] theorem State.endOfQuietNotice_controller :
    s.endOfQuietNotice.station.commissioned = s.station.commissioned ∧
    s.endOfQuietNotice.station.supplyMode = s.station.supplyMode ∧
    s.endOfQuietNotice.station.recoveryCount = s.station.recoveryCount ∧
    s.endOfQuietNotice.station.digest = s.station.digest ∧ s.endOfQuietNotice.station.skew = s.station.skew ∧
    (s.endOfQuietNotice.station.state = .unconfigured ↔ s.station.state = .unconfigured) := by
  unfold State.endOfQuietNotice; split <;> simp [*]

@[simp] theorem State.noticeEnded_controller (a : NoticeState) :
    (s.noticeEnded a).station.commissioned = s.station.commissioned ∧
    (s.noticeEnded a).station.supplyMode = s.station.supplyMode ∧
    (s.noticeEnded a).station.recoveryCount = s.station.recoveryCount ∧
    (s.noticeEnded a).station.digest = s.station.digest ∧ (s.noticeEnded a).station.skew = s.station.skew ∧
    ((s.noticeEnded a).station.state = .unconfigured ↔ s.station.state = .unconfigured) := by
  unfold State.noticeEnded; split <;> simp

@[simp] theorem State.requestNotice_controller (a : NoticeState) :
    (s.requestNotice a).station.commissioned = s.station.commissioned ∧
    (s.requestNotice a).station.supplyMode = s.station.supplyMode ∧
    (s.requestNotice a).station.recoveryCount = s.station.recoveryCount ∧
    (s.requestNotice a).station.digest = s.station.digest ∧ (s.requestNotice a).station.skew = s.station.skew ∧
    ((s.requestNotice a).station.state = .unconfigured ↔ s.station.state = .unconfigured) := by
  unfold State.requestNotice; repeat' split
  all_goals simp

@[simp] theorem State.periodicNotice_controller (b : Bool) :
    (s.periodicNotice b).station.commissioned = s.station.commissioned ∧
    (s.periodicNotice b).station.supplyMode = s.station.supplyMode ∧
    (s.periodicNotice b).station.recoveryCount = s.station.recoveryCount ∧
    (s.periodicNotice b).station.digest = s.station.digest ∧ (s.periodicNotice b).station.skew = s.station.skew ∧
    ((s.periodicNotice b).station.state = .unconfigured ↔ s.station.state = .unconfigured) := by
  unfold State.periodicNotice; split <;> simp

@[simp] theorem Station.firstBoundary_kept (x : Station) :
    x.firstBoundary.commissioned = x.commissioned ∧ x.firstBoundary.supplyMode = x.supplyMode ∧
    x.firstBoundary.recoveryCount = x.recoveryCount ∧ x.firstBoundary.digest = x.digest ∧
    x.firstBoundary.skew = x.skew ∧ (x.firstBoundary.state = .unconfigured ↔ x.state = .unconfigured) := by
  unfold Station.firstBoundary; split <;> simp [*]

@[simp] theorem State.boundary_controller :
    s.boundary.station.commissioned = s.station.commissioned ∧
    s.boundary.station.supplyMode = s.station.supplyMode ∧
    s.boundary.station.recoveryCount = s.station.recoveryCount ∧ s.boundary.station.digest = s.station.digest ∧
    s.boundary.station.skew = s.station.skew ∧
    (s.boundary.station.state = .unconfigured ↔ s.station.state = .unconfigured) := by
  unfold State.boundary; dsimp only; split <;> simp

@[simp] theorem State.closeWindow_controller (w : WindowEntry) :
    (s.closeWindow w).station.commissioned = s.station.commissioned ∧
    (s.closeWindow w).station.supplyMode = s.station.supplyMode ∧
    (s.closeWindow w).station.recoveryCount = s.station.recoveryCount ∧
    (s.closeWindow w).station.digest = s.station.digest ∧ (s.closeWindow w).station.state = s.station.state := by
  unfold State.closeWindow; dsimp only; split <;> simp

@[simp] theorem State.graceExpiry_controller :
    s.graceExpiry.station.commissioned = s.station.commissioned ∧
    s.graceExpiry.station.supplyMode = s.station.supplyMode ∧
    s.graceExpiry.station.recoveryCount = s.station.recoveryCount ∧
    s.graceExpiry.station.digest = s.station.digest ∧ s.graceExpiry.station.state = s.station.state := by
  unfold State.graceExpiry; dsimp only; split <;> simp

@[simp] theorem State.frameCollision_controller (x : Option Slot) :
    (s.frameCollision x).station.commissioned = s.station.commissioned ∧
    (s.frameCollision x).station.supplyMode = s.station.supplyMode ∧
    (s.frameCollision x).station.recoveryCount = s.station.recoveryCount ∧
    (s.frameCollision x).station.digest = s.station.digest ∧ (s.frameCollision x).station.skew = s.station.skew ∧
    ((s.frameCollision x).station.state = .unconfigured ↔ s.station.state = .unconfigured) := by
  unfold State.frameCollision State.noticeCollision; repeat' split
  all_goals simp

@[simp] theorem State.collide_controller :
    s.collide.station.commissioned = s.station.commissioned ∧
    s.collide.station.supplyMode = s.station.supplyMode ∧
    s.collide.station.recoveryCount = s.station.recoveryCount ∧ s.collide.station.digest = s.station.digest ∧
    s.collide.station.skew = s.station.skew ∧
    (s.collide.station.state = .unconfigured ↔ s.station.state = .unconfigured) := by
  simp [State.collide]

@[simp] theorem State.frameSent_controller (x : Option Slot) :
    (s.frameSent x).station.commissioned = s.station.commissioned ∧
    (s.frameSent x).station.supplyMode = s.station.supplyMode ∧
    (s.frameSent x).station.recoveryCount = s.station.recoveryCount ∧
    (s.frameSent x).station.digest = s.station.digest ∧ (s.frameSent x).station.skew = s.station.skew ∧
    ((s.frameSent x).station.state = .unconfigured ↔ s.station.state = .unconfigured) := by
  unfold State.frameSent State.noticeSent; repeat' split
  all_goals simp

@[simp] theorem State.succeed_controller :
    s.succeed.station.commissioned = s.station.commissioned ∧
    s.succeed.station.supplyMode = s.station.supplyMode ∧
    s.succeed.station.recoveryCount = s.station.recoveryCount ∧ s.succeed.station.digest = s.station.digest ∧
    s.succeed.station.skew = s.station.skew ∧
    (s.succeed.station.state = .unconfigured ↔ s.station.state = .unconfigured) := by
  simp [State.succeed]

@[simp] theorem Station.countRecovery_kept (x : Station) :
    x.countRecovery.state = x.state ∧ x.countRecovery.commissioned = x.commissioned ∧
    x.countRecovery.supplyMode = x.supplyMode ∧ x.countRecovery.digest = x.digest ∧
    x.countRecovery.skew = x.skew := by
  unfold Station.countRecovery; split <;> simp

end Sys2Proof.Machine
end

