-- ==== Sys2Proof/Laws/Port.lean ====
section
/-! SUPPORT. What taking an event and taking a host command can do, and what the checks of the station state let through. -/

namespace Sys2Proof.Machine

/-! ### MISO (R181, R182) -/

/-- R181: MISO is not driven while SSN is high. -/
theorem Port.misoOctet_idle {p : Port} (h : p.phase = .idle) (n : Nat) : p.misoOctet n = none := by
  simp [Port.misoOctet, h]

/-- R182, R196: MISO carries 0x00 while SSN is low and no command has been taken, and after RESET. -/
theorem Port.misoOctet_untaken {p : Port} (h : p.phase = .opened ∨ p.phase = .ignored) (n : Nat) :
    p.misoOctet n = some 0x00 := by
  rcases h with h | h <;> simp [Port.misoOctet, h]

/-- R182: after the taking MISO carries the response, and 0x00 past its end. -/
@[simp] theorem Port.misoOctet_taken (response : List Octet) (n : Nat) :
    (Port.mk .taken response).misoOctet n = some (response.getD n 0x00) := rfl

/-! ### Taking -/

/-- An event is taken unless RSTN holds the station. -/
theorem takeEvent_next {e : State → State} {s t : State} (h : takeEvent e s = .next t) :
    (s.rstnHigh = false ∧ t = s) ∨ (s.rstnHigh = true ∧ t = e s) := by
  unfold takeEvent at h
  cases hr : s.rstnHigh <;> simp [hr] at h <;> simp [h]

/-- An event always answers a next state. -/
theorem takeEvent_of_high {e : State → State} {s : State} (h : s.rstnHigh = true) : takeEvent e s = .next (e s) := by
  simp [takeEvent, h]

/-- A host command is taken in an open transaction with RSTN high, and changes nothing anywhere else. -/
theorem takeCommand_next {e : State → State × List Octet} {s t : State} (h : takeCommand e s = .next t) :
    t = s ∨ (s.rstnHigh = true ∧ s.port.phase = .opened ∧
      t = { (e s).1 with port := { phase := .taken, response := (e s).2 } }) := by
  unfold takeCommand at h
  split at h
  · next hc =>
    simp only [Bool.and_eq_true, beq_iff_eq] at hc
    exact .inr ⟨hc.1, hc.2, (Host.Outcome.next.inj h).symm⟩
  · exact .inl (Host.Outcome.next.inj h).symm

/-- A host command whose transaction is open is taken. -/
theorem takeCommand_of_opened {e : State → State × List Octet} {s : State} (hr : s.rstnHigh = true)
    (hp : s.port.phase = .opened) :
    takeCommand e s = .next { (e s).1 with port := { phase := .taken, response := (e s).2 } } := by
  simp [takeCommand, hr, hp]

/-- Outside an open transaction a host command changes nothing. -/
theorem takeCommand_of_not_opened {e : State → State × List Octet} {s : State}
    (h : ¬(s.rstnHigh = true ∧ s.port.phase = .opened)) : takeCommand e s = .next s := by
  unfold takeCommand
  rw [if_neg]
  simpa using h

@[simp] theorem statusOnly_state (x : Status) (n : Nat) (s : State) : (statusOnly x n s).1 = s := rfl

@[simp] theorem statusOnly_response (x : Status) (n : Nat) (s : State) :
    (statusOnly x n s).2 = x.code :: zeros n := rfl

theorem unconfiguredOnly_of_unconfigured {n : Nat} {e : State → State × List Octet} {s : State}
    (h : s.station.state = .unconfigured) : unconfiguredOnly n e s = e s := by simp [unconfiguredOnly, h]

theorem unconfiguredOnly_of_commissioned {n : Nat} {e : State → State × List Octet} {s : State}
    (h : s.station.state ≠ .unconfigured) : unconfiguredOnly n e s = statusOnly .notNow n s := by
  simp [unconfiguredOnly, h]

theorem commissionedOnly_of_commissioned {n : Nat} {e : State → State × List Octet} {s : State}
    (h : s.station.state ≠ .unconfigured) : commissionedOnly n e s = e s := by simp [commissionedOnly, h]

theorem commissionedOnly_of_unconfigured {n : Nat} {e : State → State × List Octet} {s : State}
    (h : s.station.state = .unconfigured) : commissionedOnly n e s = statusOnly .notNow n s := by
  simp [commissionedOnly, h]

theorem afterJoiningOnly_of_past {n : Nat} {e : State → State × List Octet} {s : State}
    (h : s.station.state ≠ .unconfigured) (hj : s.station.state ≠ .joining) : afterJoiningOnly n e s = e s := by
  unfold afterJoiningOnly
  split <;> simp_all

theorem afterJoiningOnly_of_not_past {n : Nat} {e : State → State × List Octet} {s : State}
    (h : s.station.state = .unconfigured ∨ s.station.state = .joining) :
    afterJoiningOnly n e s = statusOnly .notNow n s := by
  rcases h with h | h <;> simp [afterJoiningOnly, h]

/-- What holds of the state before and of every change of an UNCONFIGURED-only command holds after it. -/
theorem unconfiguredOnly_keeps {P : State → Prop} {n : Nat} {e : State → State × List Octet} {s : State} (hs : P s)
    (he : s.station.state = .unconfigured → P (e s).1) : P (unconfiguredOnly n e s).1 := by
  by_cases h : s.station.state = .unconfigured
  · rw [unconfiguredOnly_of_unconfigured h]; exact he h
  · rw [unconfiguredOnly_of_commissioned h]; exact hs

theorem commissionedOnly_keeps {P : State → Prop} {n : Nat} {e : State → State × List Octet} {s : State} (hs : P s)
    (he : s.station.state ≠ .unconfigured → P (e s).1) : P (commissionedOnly n e s).1 := by
  by_cases h : s.station.state = .unconfigured
  · rw [commissionedOnly_of_unconfigured h]; exact hs
  · rw [commissionedOnly_of_commissioned h]; exact he h

theorem afterJoiningOnly_keeps {P : State → Prop} {n : Nat} {e : State → State × List Octet} {s : State} (hs : P s)
    (he : s.station.state ≠ .unconfigured → s.station.state ≠ .joining → P (e s).1) :
    P (afterJoiningOnly n e s).1 := by
  by_cases h : s.station.state = .unconfigured
  · rw [afterJoiningOnly_of_not_past (.inl h)]; exact hs
  · by_cases hj : s.station.state = .joining
    · rw [afterJoiningOnly_of_not_past (.inr hj)]; exact hs
    · rw [afterJoiningOnly_of_past h hj]; exact he h hj

end Sys2Proof.Machine
end

