-- ==== Sys2Proof/Laws/Step.lean ====
section
/-! SUPPORT. Everything a command can do to the state, said once: what holds before a command, survives a change of the port
and holds after each effect a command can have, holds after the command. -/

namespace Sys2Proof.Machine

/-- The changes a command can make, each under the conditions it is made in. -/
structure Preserves (P : State → Prop) (s : State) : Prop where
  port : ∀ (u : State) (p : Port), P u → P { u with port := p }
  writeItem : s.station.state = .unconfigured → ∀ code value, P (writeItemEffect code value s).1
  holidayAdd : s.station.state = .unconfigured → ∀ value, P (holidayAddEffect value s).1
  holidayClear : s.station.state = .unconfigured → ∀ value, P (holidayClearEffect value s).1
  setClock : s.station.state = .unconfigured → ∀ day second, P (setClockEffect day second s).1
  trimClock : s.station.state ≠ .unconfigured → ∀ seconds, P (trimClockEffect seconds s).1
  commission : s.station.state = .unconfigured → s.complete = true →
    P (s.commissionBlocks.commissionLine.requestNotice .joining)
  quiet : s.station.state ≠ .unconfigured → s.station.state ≠ .joining → s.station.state ≠ .quiet →
    P ((s.enter .quieting).requestNotice .quiet)
  speak : s.station.state = .quieting ∨ s.station.state = .quiet → P ((s.enter .running).requestNotice .running)
  snapshot : s.station.state ≠ .unconfigured → P (snapshotEffect s).1
  releaseRecord : P (releaseEffect s).1
  clearQueue : P (clearQueueEffect s).1
  readCause : P (readCauseEffect s).1
  setEnables : ∀ enables master mode, P (setEnablesEffect enables master mode s).1
  clearFailure : P (clearFailureEffect s).1
  restartLine : s.station.state ≠ .unconfigured → P (restartLineEffect s).1
  resetConverter : s.station.state ≠ .unconfigured → P (resetConverterEffect s).1
  lineTestMode : s.station.state = .unconfigured → ∀ mode, P (lineTestModeEffect mode s).1
  sendTest : s.station.state = .unconfigured → P (sendTestEffect s).1
  reset : s.rstnHigh = true → P s.fullReset
  rstnFalling : s.rstnHigh = true → P { s.fullReset with rstnHigh := false }
  rstnRising : s.rstnHigh = false → P { s.fullReset with rstnHigh := true }
  flowPulse : s.rstnHigh = true → ∀ c, P { s with meters := changeMeter CircuitMeter.countPulse c s.meters }
  pfailnFollow : s.rstnHigh = false → ∀ b, P { s with pfailnHigh := b }.followPin
  pfailnFallingBackup : s.rstnHigh = true → s.pfailnHigh = true → s.station.supplyMode = .backup →
    P { s with pfailnHigh := false }
  pfailnFalling : s.rstnHigh = true → s.pfailnHigh = true → s.station.supplyMode ≠ .backup →
    P { s with pfailnHigh := false }.enterBackup
  pfailnRisingBackup : s.rstnHigh = true → s.pfailnHigh = false → s.station.supplyMode = .backup →
    P { s with pfailnHigh := true }.leaveBackup
  pfailnRising : s.rstnHigh = true → s.pfailnHigh = false → s.station.supplyMode ≠ .backup →
    P { s with pfailnHigh := true }
  recoveryEnd : s.rstnHigh = true → s.recoveryEnds = true → P s.returnToMains
  countedSecondEnd : s.rstnHigh = true → s.timebase.clockValid = true → s.outstanding = false →
    P { s with timebase := s.timebase.endSecond s.items.length s.items.grace }
  slewStep : s.rstnHigh = true → P { s with timebase := s.timebase.settleSlew }
  cycleEvent : s.rstnHigh = true → s.timebase.due.cycleEvent = true → ∀ hs hr cs cr, P (s.cycle hs hr cs cr)
  converterRestartEnd : s.rstnHigh = true → s.restartEnds = true →
    P { s with converter := { s.converter with state := .running } }
  windowBoundary : s.rstnHigh = true → s.timebase.due.windowBoundary = true → s.timebase.due.cycleEvent = false →
    P s.boundary
  dayBoundary : s.rstnHigh = true → s.timebase.due.dayBoundary = true →
    P { s with
        timebase := { s.timebase with due := { s.timebase.due with dayBoundary := false } }
        contexts := s.contexts.rollOver s.timebase.day s.receiver.errors }
  graceExpiry : s.rstnHigh = true → s.timebase.due.graceExpiry = true → P s.graceExpiry
  idleGap : s.rstnHigh = true → s.gapCanEnd = true → P s.idleGap
  character : s.rstnHigh = true → s.receiverOn = true → ∀ octet stopBit, P (s.character octet stopBit)
  frameReceived : s.rstnHigh = true → P s.judgeWaiting
  backoffExpiry : s.rstnHigh = true → s.transmitter.state = .backoff → P s.startSending
  txCollision : s.rstnHigh = true → s.transmitter.canCollide = true → P s.collide
  txSuccess : s.rstnHigh = true → s.transmitter.canSucceed = true → P s.succeed
  lineStuck : s.rstnHigh = true → s.lineCanStick = true →
    P { s with transmitter := { s.transmitter with stuckTimer := stuckLimit } }.reportStuck
  irqnPulseEnd : s.rstnHigh = true → P { s with causes := { s.causes with pulse := false } }
  startBit : s.rstnHigh = true → s.sourceStarts = true → P s.startBit

theorem takeCommand_keeps {P : State → Prop} {e : State → State × List Octet} {s t : State}
    (h : takeCommand e s = .next t) (hs : P s) (port : ∀ (u : State) (p : Port), P u → P { u with port := p })
    (he : P (e s).1) : P t := by
  rcases takeCommand_next h with rfl | ⟨-, -, rfl⟩
  · exact hs
  · exact port _ _ he

theorem takeEvent_keeps {P : State → Prop} {e : State → State} {s t : State} (h : takeEvent e s = .next t) (hs : P s)
    (he : s.rstnHigh = true → P (e s)) : P t := by
  rcases takeEvent_next h with ⟨-, rfl⟩ | ⟨hr, rfl⟩
  · exact hs
  · exact he hr

theorem exec_keeps {P : State → Prop} {c : Instr} {s t : State} (h : exec c s = .next t) (hs : P s)
    (k : Preserves P s) : P t := by
  cases c
  case writeItem code value =>
    exact takeCommand_keeps h hs k.port (unconfiguredOnly_keeps hs fun hu => k.writeItem hu code value)
  case holidayAdd value =>
    exact takeCommand_keeps h hs k.port (unconfiguredOnly_keeps hs fun hu => k.holidayAdd hu value)
  case holidayClear value =>
    exact takeCommand_keeps h hs k.port (unconfiguredOnly_keeps hs fun hu => k.holidayClear hu value)
  case readItem code =>
    refine takeCommand_keeps h hs k.port ?_
    unfold readItemEffect; split <;> exact hs
  case setClock day second =>
    exact takeCommand_keeps h hs k.port (unconfiguredOnly_keeps hs fun hu => k.setClock hu day second)
  case trimClock seconds =>
    exact takeCommand_keeps h hs k.port (commissionedOnly_keeps hs fun hu => k.trimClock hu seconds)
  case commission =>
    refine takeCommand_keeps h hs k.port (unconfiguredOnly_keeps hs fun hu => ?_)
    unfold commissionEffect
    split
    · next hc => exact k.commission hu hc
    · exact hs
  case quiet =>
    refine takeCommand_keeps h hs k.port (afterJoiningOnly_keeps hs fun hu hj => ?_)
    unfold quietEffect
    split
    · exact hs
    · next hq => exact k.quiet hu hj hq
  case speak =>
    refine takeCommand_keeps h hs k.port (commissionedOnly_keeps hs fun _ => ?_)
    unfold speakEffect
    split
    · next hq => exact k.speak hq
    · exact hs
  case snapshot => exact takeCommand_keeps h hs k.port (commissionedOnly_keeps hs k.snapshot)
  case fetchRecord =>
    refine takeCommand_keeps h hs k.port ?_
    unfold fetchEffect; split <;> exact hs
  case releaseRecord => exact takeCommand_keeps h hs k.port k.releaseRecord
  case clearQueue => exact takeCommand_keeps h hs k.port k.clearQueue
  case readStatus =>
    simp only [exec, execReadStatus] at h
    exact takeCommand_keeps h hs k.port hs
  case readCause => exact takeCommand_keeps h hs k.port k.readCause
  case setEnables enables master mode => exact takeCommand_keeps h hs k.port (k.setEnables enables master mode)
  case readWindow selector =>
    refine takeCommand_keeps h hs k.port ?_
    unfold readWindowEffect; repeat' split
    all_goals exact hs
  case readPeer address =>
    refine takeCommand_keeps h hs k.port ?_
    unfold readPeerEffect; repeat' split
    all_goals exact hs
  case readTotals =>
    simp only [exec, execReadTotals] at h
    exact takeCommand_keeps h hs k.port hs
  case readLine =>
    simp only [exec, execReadLine] at h
    exact takeCommand_keeps h hs k.port hs
  case clearFailure => exact takeCommand_keeps h hs k.port k.clearFailure
  case restartLine => exact takeCommand_keeps h hs k.port (commissionedOnly_keeps hs k.restartLine)
  case resetConverter => exact takeCommand_keeps h hs k.port (commissionedOnly_keeps hs k.resetConverter)
  case lineTestMode mode =>
    exact takeCommand_keeps h hs k.port (unconfiguredOnly_keeps hs fun hu => k.lineTestMode hu mode)
  case sendTest => exact takeCommand_keeps h hs k.port (unconfiguredOnly_keeps hs k.sendTest)
  case reset =>
    simp only [exec, execReset, Host.Outcome.next.injEq] at h
    split at h <;> subst h
    · next hc => simp only [Bool.and_eq_true] at hc; exact k.reset hc.1
    · exact hs
  case unknownCommand octet =>
    simp only [exec, execUnknownCommand] at h
    split at h
    · cases h
    · exact takeCommand_keeps h hs k.port hs
  case ssnFalling =>
    simp only [exec, execSsnFalling, Host.Outcome.next.injEq] at h
    subst h; exact k.port _ _ hs
  case ssnRising =>
    simp only [exec, execSsnRising, Host.Outcome.next.injEq] at h
    subst h; exact k.port _ _ hs
  case rstnFalling =>
    simp only [exec, execRstnFalling, Host.Outcome.next.injEq] at h
    split at h <;> subst h
    · next hc => exact k.rstnFalling hc
    · exact hs
  case rstnRising =>
    simp only [exec, execRstnRising, Host.Outcome.next.injEq] at h
    split at h <;> subst h
    · exact hs
    · next hc => exact k.rstnRising (by simpa using hc)
  case flowPulse c =>
    simp only [exec, execFlowPulse] at h
    exact takeEvent_keeps h hs fun hr => k.flowPulse hr c
  case pfailnFalling =>
    simp only [exec, execPfailnFalling, Host.Outcome.next.injEq] at h
    repeat' split at h
    all_goals subst h
    · next hr => exact k.pfailnFollow hr false
    · next hp hr hm => exact k.pfailnFallingBackup (by simpa using hr) hp hm
    · next hp hr hm => exact k.pfailnFalling (by simpa using hr) hp hm
    · exact hs
  case pfailnRising =>
    simp only [exec, execPfailnRising, Host.Outcome.next.injEq] at h
    repeat' split at h
    all_goals subst h
    · exact hs
    · next hr => exact k.pfailnFollow hr true
    · next hp hr hm => exact k.pfailnRisingBackup (by simpa using hr) (by simpa using hp) hm
    · next hp hr hm => exact k.pfailnRising (by simpa using hr) (by simpa using hp) hm
  case recoveryEnd =>
    refine takeEvent_keeps h hs fun hr => ?_
    split
    · next hc => exact k.recoveryEnd hr hc
    · exact hs
  case countedSecondEnd =>
    refine takeEvent_keeps h hs fun hr => ?_
    split
    · next hc =>
      simp only [Bool.and_eq_true, Bool.not_eq_true'] at hc
      exact k.countedSecondEnd hr hc.1 hc.2
    · exact hs
  case slewStep =>
    simp only [exec, execSlewStep] at h
    exact takeEvent_keeps h hs k.slewStep
  case cycleEvent a b c d =>
    refine takeEvent_keeps h hs fun hr => ?_
    split
    · next hc => exact k.cycleEvent hr hc a b c d
    · exact hs
  case converterRestartEnd =>
    refine takeEvent_keeps h hs fun hr => ?_
    split
    · next hc => exact k.converterRestartEnd hr hc
    · exact hs
  case windowBoundary =>
    refine takeEvent_keeps h hs fun hr => ?_
    split
    · next hc =>
      simp only [Bool.and_eq_true, Bool.not_eq_true'] at hc
      exact k.windowBoundary hr hc.1 hc.2
    · exact hs
  case dayBoundary =>
    refine takeEvent_keeps h hs fun hr => ?_
    split
    · next hc => exact k.dayBoundary hr hc
    · exact hs
  case graceExpiry =>
    refine takeEvent_keeps h hs fun hr => ?_
    split
    · next hc => exact k.graceExpiry hr hc
    · exact hs
  case idleGap =>
    refine takeEvent_keeps h hs fun hr => ?_
    split
    · next hc => exact k.idleGap hr hc
    · exact hs
  case lineOctetReceived octet stopBit =>
    simp only [exec, execLineOctetReceived] at h
    refine takeEvent_keeps h hs fun hr => ?_
    split
    · next o b hc =>
      refine k.character hr ?_ o b
      unfold State.sourceCharacter at hc
      split at hc
      · cases hc
      · next hon => simpa using hon
    · exact hs
  case frameReceived => exact takeEvent_keeps h hs k.frameReceived
  case backoffExpiry =>
    refine takeEvent_keeps h hs fun hr => ?_
    split
    · next hc => exact k.backoffExpiry hr hc
    · exact hs
  case txCollision =>
    refine takeEvent_keeps h hs fun hr => ?_
    split
    · next hc => exact k.txCollision hr hc
    · exact hs
  case txSuccess =>
    refine takeEvent_keeps h hs fun hr => ?_
    split
    · next hc => exact k.txSuccess hr hc
    · exact hs
  case lineStuck =>
    refine takeEvent_keeps h hs fun hr => ?_
    split
    · next hc => exact k.lineStuck hr hc
    · exact hs
  case irqnPulseEnd =>
    simp only [exec, execIrqnPulseEnd] at h
    exact takeEvent_keeps h hs k.irqnPulseEnd
  case startBit =>
    refine takeEvent_keeps h hs fun hr => ?_
    split
    · next hc => exact k.startBit hr hc
    · exact hs

/-- The same for a step: the queue may change freely, and a character time may pass. -/
theorem step_keeps {P : State → Prop} {s t : State} (h : step s = .next t) (hs : P s)
    (queue : ∀ (u : State) (q : List Instr), P u → P { u with pending := q }) (tick : P s.tick)
    (k : ∀ q : List Instr, Preserves P { s with pending := q }) : P t := by
  unfold step at h
  split at h
  · exact exec_keeps h (queue _ _ hs) (k _)
  · exact (Host.Outcome.next.inj h) ▸ tick

end Sys2Proof.Machine
end

