-- ==== Sys2Proof/Laws/Tables.lean ====
section
/-! SUPPORT. What reception, a boundary and a close do to the contexts, the Timebase and the tables: which presences, indices
and fields they keep. -/

namespace Sys2Proof.Machine

variable (s : State)

/-! ### The Timebase at a boundary and at an expiry -/

@[simp] theorem State.boundary_timebase :
    s.boundary.timebase =
      { s.timebase with graceArmed := true, due := { s.timebase.due with windowBoundary := false } } := by
  unfold State.boundary; simp only []; split <;> simp

@[simp] theorem State.graceExpiry_timebase :
    s.graceExpiry.timebase =
      { s.timebase with graceArmed := false, due := { s.timebase.due with graceExpiry := false } } := by
  unfold State.graceExpiry; simp only []; split <;> simp

/-! ### Saturation at a close -/

/-- R76, R89: exactly when a close sets SATURATED. -/
theorem foldSaturates_iff (closed : Figures) : foldSaturates closed = true ↔ ∃ v ∈ closed.fields48, maxOf 48 ≤ v := by
  simp [foldSaturates]

/-! ### The presence of the contexts -/

@[simp] theorem Contexts.countDisposition_present (c : Contexts) (d : Disposition) :
    (c.countDisposition d).current.isSome = c.current.isSome ∧ (c.countDisposition d).closing = c.closing := by
  simp [Contexts.countDisposition]

@[simp] theorem Contexts.countClash_present (c : Contexts) :
    c.countClash.current.isSome = c.current.isSome ∧ c.countClash.closing = c.closing := by
  simp [Contexts.countClash]

@[simp] theorem State.handReport_contexts (r : WindowReport) :
    (s.handReport r).contexts.current.isSome = s.contexts.current.isSome ∧
      (s.handReport r).contexts.closing = s.contexts.closing := by
  unfold State.handReport; simp only []; split <;> simp

@[simp] theorem State.dispatch_contexts (kind : Octet) (p : List Octet) :
    (s.dispatch kind p).contexts.current.isSome = s.contexts.current.isSome ∧
      (s.dispatch kind p).contexts.closing = s.contexts.closing := by
  unfold State.dispatch State.dispatchFromPeer
  split
  · simp
  · split
    · simp
    · simp only []
      repeat' split
      all_goals simp [State.addressClash]

@[simp] theorem State.judge_contexts :
    s.judge.contexts.current.isSome = s.contexts.current.isSome ∧
      s.judge.contexts.closing = s.contexts.closing := by
  unfold State.judge; split <;> simp

@[simp] theorem State.judgeWaiting_contexts :
    s.judgeWaiting.contexts.current.isSome = s.contexts.current.isSome ∧
      s.judgeWaiting.contexts.closing = s.contexts.closing := by
  unfold State.judgeWaiting; split <;> simp

@[simp] theorem State.character_contexts (o : Octet) (b : Bool) :
    (s.character o b).contexts.current.isSome = s.contexts.current.isSome ∧
      (s.character o b).contexts.closing = s.contexts.closing := by
  unfold State.character State.impliedStartBit; simp only []; split <;> simp [State.startBit]

@[simp] theorem State.readBackRest_contexts :
    s.readBackRest.contexts.current.isSome = s.contexts.current.isSome ∧
      s.readBackRest.contexts.closing = s.contexts.closing := by
  unfold State.readBackRest
  split
  · simp
  · generalize s.transmitter.octetsLeft = l
    suffices h : ∀ (l : List Octet) (t : State),
        (l.foldl (fun (t : State) o => t.character o true) t).contexts.current.isSome = t.contexts.current.isSome ∧
          (l.foldl (fun (t : State) o => t.character o true) t).contexts.closing = t.contexts.closing from h l s
    intro l
    induction l with
    | nil => simp
    | cons o l ih => intro t; simpa using ih (t.character o true)

@[simp] theorem State.idleGap_contexts :
    s.idleGap.contexts.current.isSome = s.contexts.current.isSome ∧
      s.idleGap.contexts.closing = s.contexts.closing := by
  unfold State.idleGap; simp only []; split <;> simp

@[simp] theorem State.succeed_contexts :
    s.succeed.contexts.current.isSome = s.contexts.current.isSome ∧
      s.succeed.contexts.closing = s.contexts.closing := by
  unfold State.succeed; simp

@[simp] theorem State.contextsAfterClose_present (w : WindowEntry) :
    (s.contextsAfterClose w).current.isSome = s.contexts.current.isSome ∧
      (s.contextsAfterClose w).closing.isSome = s.contexts.closing.isSome := by
  unfold State.contextsAfterClose; simp only []; split <;> simp

@[simp] theorem State.closeWindow_current (w : WindowEntry) :
    (s.closeWindow w).contexts.current.isSome = s.contexts.current.isSome := by
  unfold State.closeWindow State.finishDay; simp only []
  repeat' split
  all_goals simp

@[simp] theorem State.graceExpiry_current :
    s.graceExpiry.contexts.current.isSome = s.contexts.current.isSome := by
  unfold State.graceExpiry; simp only []; split <;> simp

end Sys2Proof.Machine
end

