-- ==== Sys2Proof/Tests/Slice0.lean ====
section
/-! SUPPORT. Tests of single steps, with the results the spec's worked examples and rules give (each test names its source),
the refusals of WellFormed, a few transactions written out octet by octet, and for every statement with hypotheses a witness
that meets them. -/

namespace Sys2Proof.Tests

open Sys2Proof.Machine

set_option Elab.async false

/-! ### The stations the tests use -/

/-- The calendar of the worked example of 02_timebase_and_tariff_calendar.md ("bands of a calendar"). -/
def calendarA : Calendar :=
  { weekday := ⟨0x0000, 0x000A, 0xAAAA, 0xAAAA, 0xAAAA, 0x5555⟩
    weekend := ⟨0x0000, 0x0000, 0x5555, 0x5555, 0x5555, 0x5555⟩
    epochWeekday := 2, holidays := [1001] }

/-- Station A of the worked examples: address 5, TENANT, weight 1200, EXPECTED 6, 15-minute windows, grace 120. -/
def itemsA : Items :=
  { Items.reset with
    stationAddress := some 5, role := some .tenant, weight := 1200, expected := 6, windowLength := some .min15 }

/-- The context of day 1000, nothing folded into it. -/
def contextA : PeriodContext :=
  { day := 1000, partialDay := false, saturated := false, figures := .fresh, rxSnapshot := none }

/-- Station A, RUNNING on MAINS in window 96,041 at second-of-day 37,000 of day 1000, the line idle, a transaction open. -/
def stationA : State :=
  { State.reset with
    port := ⟨.opened, []⟩
    station :=
      { state := .running, commissioned := true, supplyMode := .mains, recoveryCount := 0, digest := 0x1234,
        skew := .noSkew }
    items := itemsA, calendar := calendarA
    timebase :=
      { Timebase.reset with
        clockValid := true, secondOfDay := 37000, day := 1000, secondsInWindow := 100, windowInDay := 41,
        boundaryOn := true }
    meters := .both { CircuitMeter.reset with state := .normal }
    windows := ⟨none, some (.fresh 96041), some (.fresh 96042), none⟩
    contexts := ⟨some contextA, none⟩
    receiver := { Receiver.reset with parser := .ready, gapTimer := 4 } }

/-- A station after a full reset, a transaction open. -/
def blank : State := { State.reset with port := ⟨.opened, []⟩ }

/-- The blank station with a line-test mode set and its receiver on. -/
def testing (mode : LineTestMode) : State :=
  { blank with
    transmitter := { Transmitter.reset with testMode := mode }
    receiver := { Receiver.reset with parser := .waitGap } }

/-- Station A in another state of R164. -/
def stationIn (state : StationState) : State := { stationA with station := { stationA.station with state := state } }

/-- Station A with events of the Timebase issued. -/
def withDue (due : Due) (s : State) : State := { s with timebase := { s.timebase with due := due } }

/-- Station A with slew remaining at a value, a slew step issued. -/
def slewing (slew : Int) : State :=
  withDue { Due.reset with slewStep := true }
    { stationA with timebase := { stationA.timebase with slewRemaining := slew, slewCount := 7 } }

/-- The GRACE entry of window 96,041 as the worked close of 04_apportioning_at_window_close.md gives it. -/
def entry96041 : WindowEntry :=
  { WindowEntry.fresh 96041 with
    own := ⟨{ OwnPart.fresh with energy := 35721490, demand := 39690 }, .fresh⟩
    reportStatus := .sent, contributors := [2, 9, 12], weightSum := 2440
    sums := ⟨⟨131350, 118215000, 54900000⟩, ⟨0, 0, 0⟩⟩ }

/-- Station A at 37,920, the grace expiry of window 96,041 issued. -/
def expiringA : State :=
  { stationA with
    timebase :=
      { stationA.timebase with
        secondOfDay := 37920, secondsInWindow := 120, windowInDay := 42, graceArmed := true
        due := { Due.reset with graceExpiry := true } }
    windows := ⟨some entry96041, some (.fresh 96042), some (.fresh 96043), none⟩ }

/-- A Window Report of a peer for window 41 of day 1000 (heat plant only). -/
def reportFrom (sender : Nat) (role : Role) (weight demand energy : Nat) : WindowReport :=
  { sender := sender, roleCode := role.code, day := 1000, windowInDay := 41, demand := ⟨demand, 0⟩, energy := ⟨energy, 0⟩
    weight := weight, digest := 0x1234, second := 37000
    quality := .both ⟨false, false, false, false⟩ }

/-- A Presence Notice of peer G (address 17, weight 900). -/
def noticeFromG (announced : NoticeState) (digest : Nat) : PresenceNotice :=
  { sender := 17, roleCode := Role.tenant.code, announced := announced, weight := 900, digest := digest, expected := 6
    second := 37000 }

/-- A station whose receiver has taken the last octet of a frame. -/
def heard (kind : Octet) (payload : List Octet) (s : State) : State :=
  { s with
    receiver := { s.receiver with parser := .inFrame, frame := frameOctets kind payload, arrivalSecond := 37000 } }

/-- A waiting or sending report slot of station A. -/
def slotA (attempts : Nat) (expired : Bool) : ReportSlot :=
  { content := .windowReport (reportFrom 5 .tenant 1200 39690 35721490), attempts := attempts, seed := 168
    expired := expired, stuckReported := false }

/-- Station A with its parser in a state and a frame in progress. -/
def parsing (parser : ParserState) (frame : List Octet) : State :=
  { stationA with receiver := { Receiver.reset with parser := parser, frame := frame } }

/-- A notice slot of station A. -/
def noticeSlotA (announced : NoticeState) (attempts : Nat) : NoticeSlot :=
  { notice := { noticeFromG announced 0x1234 with sender := 5 }, attempts := attempts, seed := 168, stuckReported := false }

/-- Station A with its report current in a state of the transmitter, GRACE holding window 96,041 with the report PENDING. -/
def reporting (state : TxState) (slot : ReportSlot) : State :=
  { expiringA with
    windows := { expiringA.windows with graceEntry := some { entry96041 with reportStatus := .pending } }
    receiver :=
      if state = .sending then { Receiver.reset with parser := .held } else { Receiver.reset with parser := .ready }
    transmitter := { Transmitter.reset with state := state, report := some slot, current := some .report } }

/-- Station A with a notice current in a state of the transmitter. -/
def announcing (state : TxState) (slot : NoticeSlot) : State :=
  { stationA with
    receiver :=
      if state = .sending then { Receiver.reset with parser := .held } else { Receiver.reset with parser := .ready }
    transmitter := { Transmitter.reset with state := state, notice := some slot, current := some .notice } }

/-- A blank station sending a Line Test in a mode. -/
def sendingTest (mode : LineTestMode) : State :=
  { testing mode with
    transmitter :=
      { (testing mode).transmitter with
        state := .sending, current := some .report
        report := some { content := .lineTest 7, attempts := 0, seed := 0, expired := false, stuckReported := false } } }

/-- A FINAL record of a day with one heat peak and one band of energy (05_period_contexts_and_the_record_queue.md, "a merge"). -/
def recordOf (day cost band closed complete : Nat) (heat cool : Option Peak) : Record :=
  { kind := .finalRecord, address := 5, role := some .tenant, firstDay := day, lastDay := day, mergedCount := 1
    partialDay := false, saturated := false
    figures :=
      { Figures.fresh with
        energy := ⟨⟨0, 0, band, 0⟩, .all 0⟩, peak := ⟨heat, cool⟩
        counts := { Figures.fresh.counts with closed := closed, complete := complete } }
    rxErrors := ⟨0, 0, 0, 0⟩, energyCost := ⟨cost, 0⟩, commonCost := ⟨0, 0⟩ }

/-- The FINAL record of day 1002. -/
def record1002 : Record := recordOf 1002 1220668 1250000000 96 80 (some ⟨96233, 171040, 39690, 3, 232050⟩) none

/-- The FINAL record of day 1003. -/
def record1003 : Record :=
  recordOf 1003 1198004 1193000000 96 91 (some ⟨96330, 175300, 39690, 3, 226411⟩) (some ⟨96350, 52000, 0, 3, 0⟩)

/-- Station A with records in its queue and slot. -/
def queueing (n : Nat) (slot : Option Record) : State :=
  { stationA with records := { queue := List.replicate n record1002, overflow := slot, discarded := 0 } }

/-- The state after a command, the state itself where it stops. -/
def after (c : Instr) (s : State) : State :=
  match exec c s with
  | .next t => t
  | .fault _ | .refused _ => s

/-- The status octet a command is answered with. -/
def answer (c : Instr) (s : State) : Octet := (after c s).port.response.headD 0

/-- A host command that changes the port alone. -/
def changesPortOnly (c : Instr) (s : State) : Bool := decide ({ after c s with port := s.port } = s)

/-! ### Well-formedness and transactions -/

/-- R183: 0x01 names READ STATUS, so it is no unknown command. -/
theorem test_wellFormed_unknownCommand : (Instr.unknownCommand 0x01).wellFormed = false := by decide

/-- R197: the two Holiday List items have rows of their own. -/
theorem test_wellFormed_writeItem :
    (Instr.writeItem 0x20 1001).wellFormed = false ∧ (Instr.writeItem 0x21 0).wellFormed = false := by decide

/-- The ill-formed term stops with its own fault. -/
theorem test_illFormed_fault :
    (match exec (.unknownCommand 0x01) blank with | .fault r => decide (r = .illFormedCommand 0x01) | _ => false) = true := by
  decide

/-- R196: SET CLOCK of day 4217 (0x1079), second 37,500 (0x00927C). -/
theorem test_decode_setClock :
    decodeTransaction [0x06, 0x10, 0x79, 0x00, 0x92, 0x7C] = some (.setClock 4217 37500) := by decide

/-- R196, R197: WRITE ITEM of GRACE (0x0A) with 1000, and of HOLIDAY_ADD (0x20) with day 1001. -/
theorem test_decode_writeItem :
    decodeTransaction [0x05, 0x0A, 0x00, 0x00, 0x03, 0xE8] = some (.writeItem 0x0A 1000) ∧
    decodeTransaction [0x05, 0x20, 0x00, 0x00, 0x03, 0xE9] = some (.holidayAdd 1001) := by decide

/-- R181, R196: a command is taken at its last argument octet, an unknown octet alone. -/
theorem test_decode_incomplete :
    decodeTransaction [0x06, 0x10, 0x79, 0x00, 0x92] = none ∧ decodeTransaction [0x18] = some (.unknownCommand 0x18) := by
  decide

/-! ### Formats and arithmetic of the worked examples -/

/-- R117: the CRC of the nine characters "123456789" is 0x29B1, the check value of this CRC. -/
theorem test_crc_check_value : crc16 [0x31, 0x32, 0x33, 0x34, 0x35, 0x36, 0x37, 0x38, 0x39] = 0x29B1#16 := by decide +kernel

/-- 06_peer_line_reception.md, "digest input": the 31 octets. -/
theorem test_digest_input :
    digestInput itemsA calendarA =
      [0x0F, 0x00, 0x78, 0x02, 0x01, 0x03, 0xE9, 0x00, 0x00, 0x00, 0x0A, 0xAA, 0xAA, 0xAA, 0xAA, 0xAA, 0xAA, 0x55, 0x55,
       0x00, 0x00, 0x00, 0x00, 0x55, 0x55, 0x55, 0x55, 0x55, 0x55, 0x55, 0x55] := by decide +kernel

/-- 02_timebase_and_tariff_calendar.md, "comparing indices". -/
theorem test_index_differences :
    indexDifference .min15 19199 19200 = -1 ∧ indexDifference .min15 19202 19200 = 2 ∧
    indexDifference .min15 0 6291455 = 1 ∧ indexDifference .min15 6291455 0 = -1 := by decide

/-- 02_timebase_and_tariff_calendar.md, "bands of a calendar". -/
theorem test_bands :
    [96041, 96137, 96426, 96495, 96575].map (bandOf calendarA .min15) = [2, 1, 1, 0, 1] := by decide +kernel

/-- 05_period_contexts_and_the_record_queue.md, "the costs of a day". -/
theorem test_costs :
    costOf ⟨820000000, 0, 1250000000, 310501000⟩ ⟨1400, 1600, 2150, 1800⟩ = 1220668 ∧
    costOf ⟨120000000, 0, 402300000, 0⟩ ⟨1400, 1600, 2150, 1800⟩ = 286930 ∧
    costOf ⟨0, 0, 90000000, 0⟩ ⟨1, 1, 3000, 1⟩ = 75000 := by decide +kernel

/-- 05_period_contexts_and_the_record_queue.md, "a merge". -/
theorem test_merge :
    let r := mergeRecords record1002 record1003
    (r.kind, r.firstDay, r.lastDay, r.mergedCount, r.energyCost.heat) = (.merged, 1002, 1003, 2, 2418672) ∧
    (r.figures.peak.heat.map Peak.index, r.figures.peak.cool.map Peak.index) = (some 96330, some 96350) ∧
    (r.figures.counts.closed, r.figures.counts.complete, r.saturated) = (192, 171, false) := by decide +kernel

/-- 04_apportioning_at_window_close.md, "a clock falls behind", windows 1 to 4. -/
theorem test_skew :
    skewOf 10 [9, 10, 8, 11, 7, 9] = .noSkew ∧ skewOf 10 [11, 12, 10, 12, 9, 11] = .behind ∧
    skewOf 10 [12, 13, 11, 13, 10] = .behind ∧ skewOf 10 [4, 5, 3, 6, 2, 4] = .noSkew := by decide

/-- 01_metering_circuits.md, "cooling cycles at the edges", cycles a to d: energy, reverse count and residue. -/
theorem test_cooling_edges :
    let cycle (pulses supply ret : Nat) :=
      let r := CircuitMeter.cycle { CircuitMeter.reset with state := .normal, pulseCounter := pulses, residue := 5000 }
        .cool 250 20 .conversion ⟨supply, .valid⟩ ⟨ret, .valid⟩
      (r.2.energy, r.2.metered, r.2.reverse, r.1.residue)
    cycle 40 700 1250 = (230230, 10000, 0, 5000) ∧ cycle 40 700 712 = (0, 10000, 0, 5000) ∧
    cycle 8 705 690 = (0, 2000, 1, 5000) ∧ cycle 0 690 695 = (0, 0, 0, 5000) := by decide +kernel

/-! ### The commands -/

/-- 09_station_states_and_supply_modes.md, "loading a station", steps 1 and 3. -/
theorem test_writeItem_clamps_and_refuses :
    (answer (.writeItem 0x0A 1000) blank, (after (.writeItem 0x0A 1000) blank).items.grace) = (0x02, 900) ∧
    (answer (.writeItem 0x09 20) blank, (after (.writeItem 0x09 20) blank).items.windowLength) = (0x05, none) := by
  decide +kernel

/-- R37: a new day takes its ascending place. -/
theorem test_holidayAdd_sorts :
    (after (.holidayAdd 1001) { blank with calendar := { calendarA with holidays := [7, 2000] } }).calendar.holidays =
      [7, 1001, 2000] := by decide +kernel

/-- R37. -/
theorem test_holidayClear_empties :
    (after (.holidayClear 5) { blank with calendar := calendarA }).calendar.holidays = [] := by decide +kernel

/-- R178: GRACE reads as four octets; an unset STATION_ADDRESS reads EMPTY. -/
theorem test_readItem :
    (after (.readItem 0x0A) stationA).port.response = [0x01, 0x00, 0x00, 0x00, 0x78] ∧
    (after (.readItem 0x01) blank).port.response = [0x06, 0x00, 0x00, 0x00, 0x00] := by decide +kernel

/-- R178, R181, R182: GRACE on MISO: OK, 0x00000078, then 0x00; 0x78 from its most significant bit. -/
theorem test_readItem_miso :
    let t := after (.readItem 0x0A) stationA
    (List.range 7).map t.port.misoOctet = [some 0x01, some 0, some 0, some 0, some 0x78, some 0, some 0] ∧
    (List.range 8).map (fun k => t.miso (32 + k)) = [false, true, true, true, true, false, false, false].map some ∧
    (after .ssnRising t).miso 32 = none := by decide +kernel

/-- 02_timebase_and_tariff_calendar.md, "commissioning and the first windows", SET CLOCK. -/
theorem test_setClock :
    let t := (after (.setClock 4217 37500) blank).timebase
    (t.clockValid, t.day, t.secondOfDay) = (true, 4217, 37500) ∧ answer (.setClock 0 86400) blank = 0x05 := by
  decide +kernel

/-- 02_timebase_and_tariff_calendar.md, "a trim and a reversal": +2 with slew count 2, TRIM CLOCK -5. -/
theorem test_trimClock_reverses :
    let t := (after (.trimClock (BitVec.ofInt 8 (-5)))
      { stationA with timebase := { stationA.timebase with slewRemaining := 2, slewCount := 2 } }).timebase
    (t.slewRemaining, t.slewCount) = (-3, 0) := by decide +kernel

/-- R33: 127 is clamped to 120. -/
theorem test_trimClock_clamps :
    (answer (.trimClock 127) stationA, (after (.trimClock 127) stationA).timebase.slewRemaining) = (0x02, 120) := by
  decide +kernel

/-- 02_timebase_and_tariff_calendar.md, "commissioning and the first windows", COMMISSION at 37,517 with GRACE 600. -/
theorem test_commission :
    let s := { blank with
      items := { itemsA with grace := 600 }, timebase := { Timebase.reset with clockValid := true, secondOfDay := 37517, day := 4217 } }
    let t := after .commission s
    (t.timebase.windowInDay, t.timebase.secondsInWindow, t.timebase.cyclePhase, t.items.grace) = (41, 617, 1, 450) ∧
    t.station.state = .joining := by decide +kernel

/-- 09_station_states_and_supply_modes.md, "loading a station", step 6. -/
theorem test_commission_incomplete : answer .commission blank = 0x08 ∧ changesPortOnly .commission blank = true := by
  decide +kernel

/-- R169: QUIET in RUNNING requests a QUIET notice. -/
theorem test_quiet :
    (after .quiet stationA).station.state = .quieting ∧
    (after .quiet stationA).transmitter.notice.map (fun n => n.notice.announced) = some .quiet := by decide +kernel

/-- R171, R146: SPEAK in QUIET in BACKUP: RUNNING, the notice dropped with ABORTED_BY_SUPPLY. -/
theorem test_speak_in_backup :
    let s := { stationIn .quiet with station := { (stationIn .quiet).station with supplyMode := .backup } }
    (after .speak s).station.state = .running ∧ (after .speak s).transmitter.lastFailure = .abortedBySupply ∧
    (after .speak s).transmitter.notice = none := by decide +kernel

/-- 05_period_contexts_and_the_record_queue.md, "a host that falls behind": an entry from 5 to 6 alerts, a full queue refuses. -/
theorem test_snapshot :
    flagOf (after .snapshot (queueing 5 none)).causes.pending .queueAlert = true ∧
    flagOf (after .snapshot (queueing 6 none)).causes.pending .queueAlert = false ∧
    answer .snapshot (queueing 8 none) = 0x07 := by decide +kernel

/-- R195: kind FINAL, address 5, TENANT, first day 1002 (0x03EA). -/
theorem test_fetchRecord :
    (after .fetchRecord (queueing 1 none)).port.response.take 6 = [0x01, 0x01, 0x05, 0x01, 0x03, 0xEA] ∧
    (after .fetchRecord (queueing 1 none)).port.response.length = 225 := by decide +kernel

/-- "a host that falls behind", step 8: the slot's record moves to the tail, RECORD_READY and no alert. -/
theorem test_releaseRecord :
    let t := after .releaseRecord (queueing 8 (some record1003))
    (t.records.queue.length, t.records.overflow, t.records.queue.getLast?) = (8, none, some record1003) ∧
    flagOf t.causes.pending .recordReady = true ∧ flagOf t.causes.pending .queueAlert = false := by decide +kernel

/-- "a host that falls behind", step 10: seven records discarded; with an occupied slot nine. -/
theorem test_clearQueue :
    (after .clearQueue (queueing 7 none)).records = ⟨[], none, 7⟩ ∧
    (after .clearQueue (queueing 8 (some record1003))).records.discarded = 9 := by decide +kernel

/-- R198: RUNNING, commissioned, and the OPEN index 96,041 (0x00017729) at offset 18. -/
theorem test_readStatus :
    let r := (after .readStatus stationA).port.response
    r.take 3 = [0x01, 0x02, 0x01] ∧ (r.drop 19).take 4 = [0x00, 0x01, 0x77, 0x29] ∧ r.length = 47 := by decide +kernel

/-- R188: causes 3 and 5 pending: 3 is returned, the word left has bit 4. -/
theorem test_readCause :
    (after .readCause { stationA with causes := { CauseUnit.reset with pending := 0b0000010100 } }).port.response =
      [0x01, 0x03, 0x00, 0x10] := by decide +kernel

/-- R189: an interrupt mode of 2 is refused. -/
theorem test_setEnables :
    (answer (.setEnables 0x0201 1 2) stationA, answer (.setEnables 0x0201 1 1) stationA) = (0x05, 0x01) ∧
    (after (.setEnables 0xFE01 1 1) stationA).causes = ⟨0, 0b1000000001, true, .pulse, false⟩ := by decide +kernel

/-- R193: the contributor map of {2, 9, 12}: bits 6 of the first octet, 7 and 4 of the second. -/
theorem test_readWindow_map :
    ((after (.readWindow 0x00) expiringA).port.response.drop 45).take 3 = [0x40, 0x90, 0x00] := by decide +kernel

/-- R66, R183: an empty place and a selector that names none. -/
theorem test_readWindow_empty :
    answer (.readWindow 0x00) stationA = 0x06 ∧ answer (.readWindow 0x03) stationA = 0x05 := by decide +kernel

/-- R163: addresses 0 and 65 are refused, 64 has no entry. -/
theorem test_readPeer :
    (answer (.readPeer 0) stationA, answer (.readPeer 65) stationA, answer (.readPeer 64) stationA) = (0x05, 0x05, 0x06) := by
  decide +kernel

/-- R199: HEAT NORMAL, 71 octets after the status. -/
theorem test_readTotals :
    (after .readTotals stationA).port.response.take 2 = [0x01, 0x01] ∧
    (after .readTotals stationA).port.response.length = 72 := by decide +kernel

/-- R199: 19200 baud (0x004B00), receiver on, READY. -/
theorem test_readLine :
    (after .readLine stationA).port.response.take 6 = [0x01, 0x00, 0x4B, 0x00, 0x01, 0x04] := by decide +kernel

/-- R144. -/
theorem test_clearFailure :
    (after .clearFailure { stationA with transmitter := { Transmitter.reset with lastFailure := .stale } }).transmitter =
      Transmitter.reset := by decide +kernel

/-- R147, R45: the report in transmission is dropped, its status DISCARDED. -/
theorem test_restartLine :
    let t := after .restartLine (reporting .sending (slotA 2 false))
    t.transmitter = Transmitter.reset ∧ t.windows.graceEntry.map (fun e => e.reportStatus) = some .discarded ∧
    t.receiver.parser = .waitGap := by decide +kernel

/-- R7. -/
theorem test_resetConverter :
    (after .resetConverter stationA).converter = { Converter.reset with state := .restarting, restartCount := 2 } ∧
    answer .resetConverter blank = 0x03 := by decide +kernel

/-- R148, R113: EXTERNAL turns the receiver on; a mode octet of 3 is refused. -/
theorem test_lineTestMode :
    (after (.lineTestMode 2) blank).receiver.parser = .waitGap ∧ answer (.lineTestMode 3) blank = 0x05 := by decide +kernel

/-- R149: the sequence counter wraps from 65535 to 0; mode OFF refuses. -/
theorem test_sendTest :
    let s := { testing .external with transmitter := { (testing .external).transmitter with testSequence := 65535 } }
    (after .sendTest s).transmitter.report.map (fun r => r.content) = some (.lineTest 65535) ∧
    (after .sendTest s).transmitter.testSequence = 0 ∧ answer .sendTest blank = 0x03 := by decide +kernel

/-- R179, R180: every block at its full-reset values, the transaction ignored until SSN rises. -/
theorem test_reset : after .reset expiringA = { State.reset with port := ⟨.ignored, []⟩ } := by decide +kernel

/-- R183. -/
theorem test_unknownCommand :
    (after (.unknownCommand 0x18) stationA).port.response = [0x09] ∧
    changesPortOnly (.unknownCommand 0x18) stationA = true := by decide +kernel

/-- R181: a transaction that begins while RSTN is low is ignored. -/
theorem test_ssnFalling :
    (after .ssnFalling State.reset).port.phase = .opened ∧
    (after .ssnFalling { State.reset with rstnHigh := false }).port.phase = .ignored := by decide +kernel

/-- R181: a command taken ends its transaction; the next needs SSN to rise and fall. -/
theorem test_ssnRising :
    (after .ssnRising (after .readCause stationA)).port = ⟨.idle, []⟩ ∧
    after .readCause (after .readCause stationA) = after .readCause stationA := by decide +kernel

/-- R179, R164: the supply mode follows PFAILN at a full reset. -/
theorem test_rstnFalling :
    after .rstnFalling { expiringA with pfailnHigh := false } =
      { State.reset with
        rstnHigh := false, pfailnHigh := false, port := ⟨.ignored, []⟩, station := { Station.reset with supplyMode := .backup } } := by
  decide +kernel

/-- R179. -/
theorem test_rstnRising : after .rstnRising { State.reset with rstnHigh := false } = State.reset := by decide +kernel

/-- R3: the pulse counter saturates at 255. -/
theorem test_flowPulse :
    let pulses (n : Nat) :=
      (after (.flowPulse .heat) { stationA with meters := .both { stationA.meters.heat with pulseCounter := n } }).meters
    ((pulses 254).heat.pulseCounter, (pulses 255).heat.pulseCounter, (pulses 254).cool.pulseCounter) = (255, 255, 254) := by
  decide +kernel

/-- R145, R174: PFAILN falls with the report waiting and a notice queued: the report stays, the notice is dropped. -/
theorem test_pfailnFalling :
    let s := reporting .waitIdle (slotA 2 false)
    let t := after .pfailnFalling { s with transmitter := { s.transmitter with notice := some (noticeSlotA .running 0) } }
    (t.transmitter.report, t.transmitter.notice, t.transmitter.lastFailure) = (some (slotA 2 false), none, .abortedBySupply) ∧
    (t.station.supplyMode, t.receiver.parser) = (.backup, .off) := by decide +kernel

/-- 09_station_states_and_supply_modes.md, "a supply dip across a boundary", PFAILN rises. -/
theorem test_pfailnRising :
    let t := after .pfailnRising
      { stationA with pfailnHigh := false, station := { stationA.station with supplyMode := .backup } }
    (t.station.supplyMode, t.station.recoveryCount, t.causes.pending) = (.recovering, 2, 0#10) := by decide +kernel

/-- "a supply dip across a boundary", the return to MAINS. -/
theorem test_recoveryEnd :
    let t := after .recoveryEnd
      { stationA with station := { stationA.station with supplyMode := .recovering }, receiver := Receiver.reset }
    (t.station.supplyMode, t.receiver.parser) = (.mains, .waitGap) ∧ flagOf t.causes.pending .supplyChange = true := by
  decide +kernel

/-- 02_timebase_and_tariff_calendar.md, "midnight": 30-minute windows at 86,399 of day 1000. -/
theorem test_countedSecondEnd_midnight :
    let s := { stationA with
      items := { itemsA with windowLength := some .min30 }
      timebase := { stationA.timebase with secondOfDay := 86399, windowInDay := 47, secondsInWindow := 1799, cyclePhase := 1 } }
    let t := (after .countedSecondEnd s).timebase
    (t.secondOfDay, t.day, t.windowInDay, t.secondsInWindow) = (0, 1001, 0, 0) ∧
    t.due = { Due.reset with cycleEvent := true, windowBoundary := true, dayBoundary := true } := by decide +kernel

/-- 02_timebase_and_tariff_calendar.md, "commissioning and the first windows": the grace expiry of window 41 at 38,250. -/
theorem test_countedSecondEnd_grace :
    let s := { stationA with
      items := { itemsA with grace := 450 }
      timebase :=
        { stationA.timebase with
          secondOfDay := 38249, windowInDay := 42, secondsInWindow := 449, cyclePhase := 1, graceArmed := true } }
    (after .countedSecondEnd s).timebase.due = { Due.reset with cycleEvent := true, graceExpiry := true } := by
  decide +kernel

/-- R34: +3 becomes +2, and the second that has begun is shortened. -/
theorem test_slewStep :
    let s := withDue { Due.reset with slewStep := true }
      { stationA with timebase := { stationA.timebase with slewRemaining := 3, slewCount := 7 } }
    let t := (after .slewStep s).timebase
    (t.slewRemaining, t.slewCount, t.secondLength, t.due.slewStep) = (2, 0, .shortened, false) := by decide +kernel

/-- 01_metering_circuits.md, "one heating cycle": 79,287 J, residue 64,600. -/
theorem test_cycleEvent_heating :
    let s := withDue { Due.reset with cycleEvent := true }
      { stationA with meters := { stationA.meters with heat := { stationA.meters.heat with pulseCounter := 13, residue := 62000 } } }
    let t := after (.cycleEvent (.converted 7000) (.converted 5543) (.openCircuit 0) (.openCircuit 0)) s
    t.windows.openEntry.map (fun e => (e.own.heat.energy, e.own.heat.metered)) = some (79287, 1300) ∧
    (t.meters.heat.residue, t.meters.heat.lifetimeEnergy, t.meters.heat.lifetimeVolume) = (64600, 79287, 1300) := by
  decide +kernel

/-- 01_metering_circuits.md, "a return sensor fails and recovers", event 11: HOLDING 7 to FAULT 8 with SENSOR_FAULT. -/
theorem test_cycleEvent_fault :
    let s := withDue { Due.reset with cycleEvent := true }
      { stationA with
        meters :=
          { stationA.meters with
            heat := { stationA.meters.heat with state := .holding, holdCount := 7, supplyValid := true, returnValid := true } } }
    let t := after (.cycleEvent (.converted 7005) (.openCircuit 0) (.converted 700) (.converted 1250)) s
    (t.meters.heat.state, t.meters.heat.holdCount) = (.fault, 8) ∧ flagOf t.causes.pending .sensorFault = true := by
  decide +kernel

/-- R6: the restart count has fallen to 0. -/
theorem test_converterRestartEnd :
    (after .converterRestartEnd { stationA with converter := { Converter.reset with state := .restarting } }).converter =
      Converter.reset := by decide +kernel

/-- 03_the_window_table.md, "one window in a four-station view", event 2: own demand 39,690 W, PENDING. -/
theorem test_windowBoundary :
    let s := withDue { Due.reset with windowBoundary := true }
      { stationA with
        windows :=
          { stationA.windows with
            openEntry := some { WindowEntry.fresh 96041 with own := ⟨{ OwnPart.fresh with energy := 35721490 }, .fresh⟩ } } }
    let t := after .windowBoundary s
    t.windows.graceEntry.map (fun e => (e.own.heat.demand, e.reportStatus)) = some (39690, .pending) ∧
    (t.windows.openEntry.map WindowEntry.index, t.windows.aheadEntry.map WindowEntry.index) = (some 96042, some 96043) := by
  decide +kernel

/-- R48: a QUIET station's report is SUPPRESSED. -/
theorem test_windowBoundary_quiet :
    let t := after .windowBoundary (withDue { Due.reset with windowBoundary := true } (stationIn .quiet))
    t.windows.graceEntry.map (fun e => e.reportStatus) = some .suppressed ∧ t.transmitter = stationA.transmitter := by
  decide +kernel

/-- R91. -/
theorem test_dayBoundary :
    let s := withDue { Due.reset with dayBoundary := true }
      { stationA with
        timebase := { stationA.timebase with day := 1001 }, receiver := { stationA.receiver with errors := ⟨1, 2, 3, 4⟩ } }
    let t := after .dayBoundary s
    (t.contexts.closing.map fun c => (c.day, c.rxSnapshot)) = some (1000, some ⟨1, 2, 3, 4⟩) ∧
    t.contexts.current.map PeriodContext.day = some 1001 := by decide +kernel

/-- 04_apportioning_at_window_close.md, worked close: peak 171,040 W, share 232,050 ppm, common share 18,098,901 J, band 2. -/
theorem test_graceExpiry_close :
    let s := { expiringA with
      contexts :=
        { expiringA.contexts with
          current :=
            some { contextA with figures := { Figures.fresh with peak := ⟨some ⟨96038, 168200, 1, 1, 1⟩, none⟩ } } } }
    let f := ((after .graceExpiry s).contexts.current.map PeriodContext.figures).getD .fresh
    f.peak.heat = some ⟨96041, 171040, 39690, 3, 232050⟩ ∧
    (f.commonShare.heat.band2, f.energy.heat.band2, f.complexEnergy.heat) = (18098901, 35721490, 153936490) := by
  decide +kernel

/-- R76, R86: a 48-bit field standing at 2^48 - 1 sets SATURATED at a close that adds nothing to it. -/
theorem test_close_at_limit :
    let full := { contextA with figures := { Figures.fresh with complexEnergy := ⟨2 ^ 48 - 1, 0⟩ } }
    ((full.close itemsA calendarA (.fresh 96041) 0).saturated, (contextA.close itemsA calendarA (.fresh 96041) 0).saturated)
      = (true, false) := by decide +kernel

/-- 03_the_window_table.md, "a report at the deadline", case 1: the waiting report is withdrawn as STALE. -/
theorem test_graceExpiry_stale :
    let t := after .graceExpiry (reporting .waitIdle (slotA 5 false))
    (t.windows.closedReport, t.transmitter.report, t.transmitter.lastFailure) = (some ⟨96041, .stale⟩, none, .stale) ∧
    flagOf t.causes.pending .txFailure = true := by decide +kernel

/-- 07_peer_line_transmission.md, the contention example: A = 5, s = 168, a = 0 and 1 give k = 1 and 4. -/
theorem test_idleGap_backoff :
    (after .idleGap (reporting .waitIdle (slotA 0 false))).transmitter.backoffSlots = 1 ∧
    (after .idleGap (reporting .waitIdle (slotA 1 false))).transmitter.backoffSlots = 4 := by decide +kernel

/-- R116: 0xC3 opens a frame in READY, any other octet is stray. -/
theorem test_lineOctetReceived :
    (after (.lineOctetReceived 0xC3 true) stationA).receiver.parser = .inFrame ∧
    (after (.lineOctetReceived 0xC4 true) stationA).receiver.errors = ⟨0, 1, 0, 0⟩ := by decide +kernel

/-- R112: a line held at space after a missing stop bit does not become idle as time passes; at mark the gap timer runs. -/
theorem test_lineOctetReceived_at_space :
    ((after (.lineOctetReceived 0x00 false) stationA).tick.receiver.gapTimer,
      (after (.lineOctetReceived 0x00 true) stationA).tick.receiver.gapTimer) = (0, 1) := by decide +kernel

/-- 03_the_window_table.md, "one window in a four-station view", event 1: D's report accepted into OPEN. -/
theorem test_frameReceived_accepted :
    let t := after .frameReceived (heard 0x31 (reportFrom 12 .common 0 61000 54900000).payload stationA)
    t.windows.openEntry.map (fun e => (e.contributors, e.sums.heat)) = some ([12], ⟨61000, 54900000, 54900000⟩) ∧
    t.receiver.parser = .afterFrame := by decide +kernel

/-- R154: G's notice with a differing digest makes it INCOMPATIBLE (08_the_peer_table.md, step 11). -/
theorem test_frameReceived_incompatible :
    let t := after .frameReceived (heard 0x32 (noticeFromG .joining 0x4321).payload stationA)
    t.peers.map (fun p => (p.address, p.state)) = [(17, .incompatible)] ∧
    flagOf t.causes.pending .peerIncompatible = true := by decide +kernel

/-- R139: the second-of-day is filled when the attempt starts, and the parser is held. -/
theorem test_backoffExpiry :
    let t := after .backoffExpiry (announcing .backoff (noticeSlotA .running 0))
    (t.transmitter.notice.map fun n => n.notice.second) = some 37000 ∧
    (t.transmitter.state, t.receiver.parser) = (.sending, .held) := by decide +kernel

/-- R111, R139: the lead octet 0xC3 on LTX: start bit, 1100 0011 from the least significant bit, stop bit; then the kind. -/
theorem test_backoffExpiry_ltx :
    let t := after .backoffExpiry (reporting .backoff (slotA 0 false))
    t.lde = true ∧
    (List.range 11).map t.ltx = [false, true, true, false, false, false, false, true, true, true, false] := by decide +kernel

/-- R142: the eighth collision gives the report up. -/
theorem test_txCollision :
    let t := after .txCollision (withDue .reset (reporting .sending (slotA 7 false)))
    (t.transmitter.report, t.transmitter.lastFailure, t.transmitter.giveUps) = (none, .collisionLimit, 1) ∧
    t.windows.graceEntry.map (fun e => e.reportStatus) = some .discarded := by decide +kernel

/-- R64: an eighth collision and the grace expiry of its moment: STALE in either order, and nothing given up. -/
theorem test_txCollision_at_expiry :
    let s := reporting .sending (slotA 7 false)
    ∀ t ∈ [after .graceExpiry (after .txCollision s), after .txCollision (after .graceExpiry s)],
      (t.windows.closedReport, t.transmitter.report, t.transmitter.lastFailure, t.transmitter.giveUps) =
        (some ⟨96041, .stale⟩, none, .stale, 0) ∧ flagOf t.causes.pending .txFailure = true := by decide +kernel

/-- R58: an attempt that ends well turns PENDING to SENT. -/
theorem test_txSuccess :
    let t := after .txSuccess (reporting .sending (slotA 0 false))
    t.windows.graceEntry.map (fun e => e.reportStatus) = some .sent ∧
    (t.transmitter.state, t.transmitter.framesSent) = (.idle, 1) := by decide +kernel

/-- R142, R124: on the internal loop a Line Test reaches the parser only after an idle gap; here the parser is READY. -/
theorem test_txSuccess_internal :
    let s := { sendingTest .internal with receiver := { Receiver.reset with parser := .ready } }
    (after .frameReceived (after .txSuccess s)).receiver.lastEcho = some 7 := by decide +kernel

/-- R143: the stuck report is made once per frame. -/
theorem test_lineStuck :
    let t := after .lineStuck (reporting .waitIdle (slotA 0 false))
    t.transmitter.lastFailure = .lineStuck ∧ flagOf t.causes.pending .txFailure = true ∧ after .lineStuck t = t := by
  decide +kernel

/-- R143: on the internal loop the stuck timer runs as long as the gap timer lets WAIT_IDLE last. -/
theorem test_lineStuck_internal :
    let s := after .sendTest (testing .internal)
    (s.transmitter.state, s.tick.transmitter.stuckTimer, s.tick.receiver.gapTimer) = (.waitIdle, 4, 1) ∧
    after .lineStuck s = s := by decide +kernel

/-- R191. -/
theorem test_irqnPulseEnd :
    let s := { stationA with causes := ⟨0, 1, true, .pulse, true⟩ }
    (s.irqnAsserted, (after .irqnPulseEnd s).irqnAsserted) = (true, false) := by decide +kernel

/-- R138: a start bit in BACKOFF defers, counting nothing. -/
theorem test_startBit :
    let s := reporting .backoff (slotA 3 false)
    let t := after .startBit { s with transmitter := { s.transmitter with backoffSlots := 12 } }
    t.transmitter = (reporting .waitIdle (slotA 3 false)).transmitter ∧ t.receiver.gapTimer = 0 := by decide +kernel

/-! ### Station A has every invariant -/

/-- What LineQueueOk asks of a state that is not QUIETING, as facts that can be decided. -/
theorem lineQueueOk_of_checks (s : State)
    (h : (s.transmitter.state = .idle ↔ s.transmitter.current = none) ∧
      (s.transmitter.state ≠ .sending → s.transmitter.current = s.transmitter.wanted) ∧
      (s.transmitter.current = some .report → s.transmitter.report.isSome = true) ∧
      (s.transmitter.current = some .notice → s.transmitter.notice.isSome = true) ∧
      (s.transmitter.followOn ≠ none → s.transmitter.isSending .notice = true) ∧
      (s.transmitter.backoffSlots ≤ 127 ∧ (s.transmitter.state ≠ .backoff → s.transmitter.backoffSlots = 0)) ∧
      (s.transmitter.stuckTimer ≤ stuckLimit ∧ (s.transmitter.state ≠ .waitIdle → s.transmitter.stuckTimer = 0)) ∧
      (s.station.state = .unconfigured → s.transmitter.notice = none) ∧ s.station.state ≠ .quieting ∧
      (s.timebase.due.windowBoundary = true → s.timebase.due.graceExpiry = false))
    (r : ∀ r ∈ s.transmitter.report.toList,
      (r.expired = true → s.transmitter.isSending .report = true) ∧ r.attempts < 8 ∧ r.content.suits s.station.state)
    (n : ∀ n ∈ s.transmitter.notice.toList, n.attempts < 8) : LineQueueOk s where
  idle := h.1
  choice := h.2.1
  reportCurrent := h.2.2.1
  noticeCurrent := h.2.2.2.1
  followOn := h.2.2.2.2.1
  expired := fun x hx => (r x (by simp [hx])).1
  backoff := h.2.2.2.2.2.1
  stuck := h.2.2.2.2.2.2.1
  reportAttempts := fun x hx => .inl (r x (by simp [hx])).2.1
  noticeAttempts := fun x hx => n x (by simp [hx])
  reportKind := fun x hx => (r x (by simp [hx])).2.2
  noticeKind := h.2.2.2.2.2.2.2.1
  quieting := fun q => absurd q h.2.2.2.2.2.2.2.2.1
  oneMoment := h.2.2.2.2.2.2.2.2.2

/-- Station A's queue is in order. -/
theorem lineQueueOk_stationA : LineQueueOk stationA := lineQueueOk_of_checks _ (by decide) (by simp [stationA, State.reset, Transmitter.reset]) (by decide)
theorem held_stationA : HeldAtReset stationA := fun h => by cases h
theorem station_stationA : StationOk stationA where
  flag := by decide
  boundary := by decide
  required := by decide
  current := by decide
  testMode := by decide
  recovering := by decide
  backup := by decide
  recovery := by decide

theorem clock_stationA : ClockOk stationA where
  secondOfDay := by decide +kernel
  day := by decide +kernel
  invalid := by decide
  off := by decide
  window := by decide +kernel
  inWindow := by decide +kernel
  phase := by decide +kernel
  slew := by decide
  slewCount := by decide

theorem items_stationA : ItemsOk stationA where
  address := fun a h => by cases h; decide
  expected := by decide
  weight := by decide +kernel
  pulse := fun p => by cases p <;> decide
  dtCutoff := by decide +kernel
  grace := by decide +kernel
  clamped := by decide +kernel
  skewLimit := by decide +kernel
  queueAlertLevel := by decide
  epochWeekday := by decide
  rate := fun p b => by cases p <;> (rcases b with _ | _ | _ | _ <;> exact (by decide : 0 < 65536))
  holidays := by unfold Ascending; decide +kernel

theorem windows_stationA : WindowsOk stationA where
  opened := by decide
  ahead := by decide
  empty := by decide
  aheadIndex := fun o a ho ha => by cases ho; cases ha; decide +kernel
  graceIndex := fun g o hg => by cases hg
  armed := by decide
  openStatus := fun e h => by cases h; decide
  aheadStatus := fun e h => by cases h; decide
  graceStatus := fun e h => by cases h
  closedStatus := fun e h => by cases h
  aheadOwn := fun e h => by cases h; decide

theorem peers_stationA : PeersOk stationA where
  ascending := by unfold Ascending; decide
  addresses := by simp [stationA, State.reset]
  empty := by decide
  missed := by decide
  grace := fun e h => by cases h
  opened := fun e h => by cases h; exact ⟨by unfold Ascending; decide, by simp [WindowEntry.fresh]⟩
  ahead := fun e h => by cases h; exact ⟨by unfold Ascending; decide, by simp [WindowEntry.fresh]⟩

theorem figuresFit_fresh : FiguresFit .fresh where
  energy := fun p b => by cases p <;> (rcases b with _ | _ | _ | _ <;> exact (by decide : 0 < 2 ^ 48))
  commonShare := fun p b => by cases p <;> (rcases b with _ | _ | _ | _ <;> exact (by decide : 0 < 2 ^ 48))
  complexEnergy := fun p => by cases p <;> decide
  unmetered := by decide
  reverseCount := by decide
  counts := by decide
  dispositions := by decide
  addressClashes := by decide

theorem fields_stationA : FieldsFit stationA where
  current := fun c h => by cases h; exact figuresFit_fresh
  closing := fun c h => by cases h
  queue := by simp [stationA, State.reset, RecordQueue.reset]
  overflow := fun c h => by cases h
  discarded := by decide
  errors := by unfold RxErrorsFit; decide
  received := by decide
  sent := by decide
  peers := by simp [stationA, State.reset]

theorem meter_stationA : MeterOk stationA.meters.heat where
  held := by decide
  residue := by decide
  pulses := by decide
  lifetimes := by decide
  absent := by decide
  normal := by decide
  holding := by decide
  fault := by decide

theorem metering_stationA : MeteringOk stationA where
  heat := meter_stationA
  cool := meter_stationA
  unconfigured := by decide
  restart := by decide
  backup := by decide

theorem receiver_stationA : ReceiverOk stationA where
  off := by decide
  rest := by decide
  gap := by decide
  held := by decide
  noFrame := by decide
  frame := fun h => by cases h
  attempt := by decide
/-- What ReceiverOk asks of a state with no frame in progress, as facts that can be decided. -/
theorem receiverOk_of_checks (s : State)
    (h : (s.receiver.parser = .off ↔ s.receiverOn = false) ∧
      (s.receiver.parser = .off → s.receiver.gapTimer = 0 ∧ s.receiver.charInProgress = false) ∧
      s.receiver.gapTimer ≤ 4 ∧
      (s.receiver.parser = .held ↔ s.transmitter.state = .sending ∧ s.transmitter.testMode = .off) ∧
      s.receiver.frame = [] ∧ s.receiver.parser ≠ .inFrame ∧
      (s.transmitter.state = .backoff ∨ s.transmitter.state = .sending → s.receiverOn = true)) : ReceiverOk s where
  off := h.1
  rest := h.2.1
  gap := h.2.2.1
  held := h.2.2.2.1
  noFrame := fun _ => h.2.2.2.2.1
  frame := fun q => absurd q h.2.2.2.2.2.1
  attempt := h.2.2.2.2.2.2

theorem ranges_stationA : CausesOk stationA ∧ QueueOk stationA := by
 unfold CausesOk QueueOk; decide
/-! ### Witnesses: the port and the responses -/

theorem witness_IdleStepMovesTimersOnly :
    (∀ s ∈ [stationA, parsing .waitGap [], reporting .waitIdle (slotA 0 false),
        { reporting .backoff (slotA 0 false) with
          transmitter := { (reporting .backoff (slotA 0 false)).transmitter with backoffSlots := 2 } }],
      ({ s with timebase := stationA.timebase } : State).pending = [] ∧
      ({ s with timebase := stationA.timebase } : State).characterTimePasses = true) ∧
    (withDue { Due.reset with cycleEvent := true } stationA).pending = [] ∧
    (withDue { Due.reset with cycleEvent := true } stationA).characterTimePasses = false := by decide +kernel

theorem witness_EveryWellFormedCommandCompletes :
    (Instr.unknownCommand 0x18).wellFormed = true ∧ (Instr.writeItem 0x22 0).wellFormed = true ∧
    namesCommand 0x17 = true ∧ namesCommand 0xA5 = true := by decide

theorem witness_TransactionsSpellCommands :
    ((Instr.writeItem 0x1F 0xFFFFFFFF).wellFormed = true ∧
      encodeTransaction (.writeItem 0x1F 0xFFFFFFFF) = some [0x05, 0x1F, 0xFF, 0xFF, 0xFF, 0xFF]) ∧
    decodeTransaction [0x05, 0x1F, 0xFF, 0xFF, 0xFF, 0xFF] = some (.writeItem 0x1F 0xFFFFFFFF) ∧
    argumentOctets 0x17 = some 0 ∧ argumentOctets 0x05 = some 5 ∧ argumentOctets 0x18 = none ∧ argumentOctets 0x00 = none := by
  decide

/-- A station held by RSTN, a transaction begun meanwhile. -/
def heldLow : State := { State.reset with rstnHigh := false, port := ⟨.ignored, []⟩ }

theorem witness_TransactionsAtThePort :
    State.reset.port.phase = .idle ∧ stationA.port.phase ≠ .idle ∧
    (stationA.portOpen ∧ namesCommand 0x00 = false ∧ namesCommand 0x18 = false) ∧
    blank.port.phase = .opened ∧ (heldLow.port.phase = .ignored ∧ heldLow.rstnHigh = false) ∧
    (¬State.reset.portOpen ∧ Instr.readStatus.wellFormed = true ∧ (encodeTransaction .readStatus).isSome = true) := by
  unfold State.portOpen; decide

theorem witness_StationStateTable :
    StationOk stationA ∧ stationA.portOpen ∧
    ((Instr.setClock 0 0).wellFormed = true ∧ (encodeTransaction (.setClock 0 0)).isSome = true ∧
      acceptedIn (.setClock 0 0) stationA.station.state = false) ∧
    ((Instr.trimClock 0).wellFormed = true ∧ (encodeTransaction (.trimClock 0)).isSome = true ∧
      acceptedIn (.trimClock 0) stationA.station.state = true) :=
  ⟨station_stationA, by unfold State.portOpen; decide⟩

theorem witness_RefusalsChangeNothing :
    stationA.portOpen ∧ (encodeTransaction (.readWindow 3)).isSome = true ∧
    exec (.readWindow 3) stationA = .next (after (.readWindow 3) stationA) ∧ answer (.readWindow 3) stationA = 0x05 :=
  ⟨⟨rfl, rfl⟩, rfl, rfl, by decide +kernel⟩

theorem witness_ReadStatusLayout :
    stationA.portOpen ∧ stationA.timebase.due.slewStep = false ∧ stationA.windows.closedReport = none ∧
    (∀ slew ∈ [(120 : Int), 0, -120], (slewing slew).portOpen ∧ (slewing slew).timebase.due.slewStep = true) ∧
    (after .graceExpiry expiringA).portOpen ∧ (after .graceExpiry expiringA).windows.closedReport = some ⟨96041, .sent⟩ := by
  unfold State.portOpen; decide +kernel

theorem witness_ReadWindowLayout :
    stationA.portOpen ∧ 2 < (0x03 : Octet).toNat ∧ stationA.windows.graceEntry = none ∧
    stationA.windows.openEntry = some (.fresh 96041) ∧ stationA.windows.aheadEntry = some (.fresh 96042) ∧
    Ascending [1, 64] ∧ (∀ a ∈ [1, 64], 1 ≤ a ∧ a ≤ 64) := by
  unfold State.portOpen Ascending; decide

/-- Peer G as it stands after step 2 of 08_the_peer_table.md's worked example, at an address of choice. -/
def peerAt (address : Nat) (acceptance : Option Acceptance) : PeerEntry :=
  { PeerEntry.created address 0x01 900 with acceptance := acceptance }

theorem witness_ReadPeerLayout :
    stationA.portOpen ∧ (0x00 : Octet).toNat = 0 ∧ 64 < (0x41 : Octet).toNat ∧
    (1 ≤ (0x40 : Octet).toNat ∧ (0x40 : Octet).toNat ≤ 64 ∧ ∀ p ∈ stationA.peers, p.address ≠ (0x40 : Octet).toNat) ∧
    (let s := { stationA with peers := [peerAt 1 none, peerAt 64 (some ⟨96041, 1, 96041⟩)] }
     s.portOpen ∧ Ascending (s.peers.map PeerEntry.address) ∧ peerAt 1 none ∈ s.peers ∧
      peerAt 64 (some ⟨96041, 1, 96041⟩) ∈ s.peers ∧ (peerAt 1 none).address = (0x01 : Octet).toNat ∧
      (peerAt 64 (some ⟨96041, 1, 96041⟩)).address = (0x40 : Octet).toNat) := by
  unfold State.portOpen Ascending; decide

theorem witness_ReadTotalsLayout : stationA.portOpen := ⟨rfl, rfl⟩

theorem witness_ReadLineLayout :
    (stationA.portOpen ∧ stationA.transmitter.report = none ∧ stationA.transmitter.notice = none) ∧
    ((reporting .waitIdle (slotA 7 false)).portOpen ∧
      (reporting .waitIdle (slotA 7 false)).transmitter.report = some (slotA 7 false)) ∧
    ((sendingTest .external).portOpen ∧ (sendingTest .external).transmitter.report.isSome = true) ∧
    ((announcing .backoff (noticeSlotA .quiet 0)).portOpen ∧
      (announcing .backoff (noticeSlotA .quiet 0)).transmitter.notice = some (noticeSlotA .quiet 0)) := by
  unfold State.portOpen; decide

theorem witness_ReadItemReturnsStoredValue :
    stationA.portOpen ∧ stationA.items.stationAddress = some 5 ∧ stationA.items.role = some .tenant ∧
    stationA.items.windowLength = some .min15 ∧ blank.portOpen ∧ blank.items.stationAddress = none ∧
    blank.items.role = none ∧ blank.items.windowLength = none := by
  unfold State.portOpen; decide

/-! ### Witnesses: items, calendar and Timebase -/

theorem witness_WriteItemByKind :
    (blank.portOpen ∧ blank.station.state = .unconfigured) ∧ (stationA.portOpen ∧ stationA.station.state ≠ .unconfigured) ∧
    (0#32).toNat < 1 ∧ (64#32).toNat ≤ 64 ∧ 64 < (65#32).toNat ∧ (38400#32).toNat = 38400 := by
  unfold State.portOpen; decide

/-- A blank station with sixteen holidays, days 0 to 15. -/
def fullList : State := { blank with calendar := { calendarA with holidays := List.range 16 } }

theorem witness_HolidayListWrites :
    blank.portOpen ∧ blank.station.state = .unconfigured ∧ 65535 < (65536#32).toNat ∧ (65535#32).toNat ≤ 65535 ∧
    (65535#32).toNat ∉ blank.calendar.holidays ∧ blank.calendar.holidays.length < 16 ∧
    fullList.portOpen ∧ fullList.station.state = .unconfigured ∧ (15#32).toNat ∈ fullList.calendar.holidays ∧
    (65535#32).toNat ∉ fullList.calendar.holidays ∧ 16 ≤ fullList.calendar.holidays.length ∧
    Ascending fullList.calendar.holidays := by
  unfold State.portOpen Ascending; decide

theorem witness_IndicesAndBandsOfWindows :
    (65535 < 65536 ∧ 95 < WindowLength.min15.perDay) ∧ (calendarA.epochWeekday + 96426 / WindowLength.min15.perDay) % 7 = 5 ∧
    96137 / WindowLength.min15.perDay ∈ calendarA.holidays ∧
    ¬((calendarA.epochWeekday + 96041 / WindowLength.min15.perDay) % 7 = 5 ∨
      (calendarA.epochWeekday + 96041 / WindowLength.min15.perDay) % 7 = 6 ∨
      96041 / WindowLength.min15.perDay ∈ calendarA.holidays) := by decide

theorem witness_SetClock :
    (stationA.portOpen ∧ stationA.station.state ≠ .unconfigured) ∧ (blank.portOpen ∧ blank.station.state = .unconfigured) ∧
    86399 < (86400#24).toNat ∧ (86399#24).toNat ≤ 86399 := by
  unfold State.portOpen; decide

theorem witness_TrimClockAndSlewStep :
    (stationA.portOpen ∧ stationA.timebase.due.slewStep = false ∧ stationA.station.state ≠ .unconfigured) ∧
    (blank.portOpen ∧ blank.timebase.due.slewStep = false ∧ blank.station.state = .unconfigured) ∧
    (0#8).toInt = 0 ∧ (127#8).toInt ≠ 0 ∧ (128#8).toInt ≠ 0 ∧ stationA.rstnHigh = true ∧
    (∀ slew ∈ [(1 : Int), 0, -1], (slewing slew).rstnHigh = true ∧ (slewing slew).timebase.due.slewStep = true ∧
      (slewing slew).portOpen ∧ (slewing slew).station.state ≠ .unconfigured) ∧
    0 < (slewing 1).timebase.slewRemaining ∧ (slewing (-1)).timebase.slewRemaining < 0 ∧
    (slewing 0).timebase.slewRemaining = 0 := by
  unfold State.portOpen; decide

theorem witness_SecondEndBeforeCommission :
    (blank.rstnHigh = true ∧ blank.timebase.clockValid = false) ∧
    (let s := { blank with timebase := { Timebase.reset with clockValid := true, secondOfDay := 86399, day := 65535 } }
     s.rstnHigh = true ∧ s.timebase.clockValid = true ∧ s.outstanding = false ∧ s.timebase.boundaryOn = false ∧
      s.timebase.slewRemaining = 0 ∧ s.timebase.secondLength = .nominal) := by decide

theorem witness_SecondEndAfterCommission :
    stationA.rstnHigh = true ∧ stationA.timebase.clockValid = true ∧ stationA.outstanding = false ∧
    stationA.timebase.boundaryOn = true := by decide

/-! ### Witnesses: metering -/

/-- Station A with a heat meter and a converter, a cycle event issued. -/
def cycling (m : CircuitMeter) (c : Converter) : State :=
  withDue { Due.reset with cycleEvent := true } { stationA with meters := { stationA.meters with heat := m }, converter := c }

/-- A meter in a state with counts, both channels ever valid. -/
def meterIn (state : CircuitState) (holdCount goodRun : Nat) : CircuitMeter :=
  { CircuitMeter.reset with
    state := state, holdCount := holdCount, goodRun := goodRun, supplyValid := true, returnValid := true, pulseCounter := 255 }

/-- Station A in BACKUP with a backup count, a cycle event issued. -/
def cyclingInBackup (count : Nat) : State :=
  { cycling (meterIn .normal 0 0) { Converter.reset with backupCount := count } with
    pfailnHigh := false, station := { stationA.station with supplyMode := .backup } }

theorem witness_FlowPulsesAndConverterRestart :
    stationA.rstnHigh = true ∧ (stationA.portOpen ∧ stationA.station.state ≠ .unconfigured) ∧
    (blank.portOpen ∧ blank.station.state = .unconfigured) ∧
    (let s := { stationA with converter := { Converter.reset with state := .restarting } }
     s.rstnHigh = true ∧ s.converter.state = .restarting ∧ s.converter.restartCount = 0) ∧
    ¬(stationA.converter.state = .restarting ∧ stationA.converter.restartCount = 0) := by
  unfold State.portOpen; decide

theorem witness_CycleEventConverter :
    (stationA.rstnHigh = true ∧ stationA.timebase.due.cycleEvent = false) ∧
    (∀ c ∈ [Converter.reset, { Converter.reset with state := .restarting, restartCount := 2 }],
      (cycling (meterIn .normal 0 0) c).rstnHigh = true ∧ (cycling (meterIn .normal 0 0) c).timebase.due.cycleEvent = true ∧
      (cycling (meterIn .normal 0 0) c).converter.backupCount ≤ 7) ∧
    (∀ n ∈ [0, 1, 7], (cyclingInBackup n).rstnHigh = true ∧ (cyclingInBackup n).timebase.due.cycleEvent = true ∧
      (cyclingInBackup n).converter.backupCount ≤ 7 ∧ (cyclingInBackup n).station.supplyMode = .backup) := by decide

theorem witness_CycleEventCircuitStates :
    (∀ m ∈ [meterIn .absent 0 0, meterIn .normal 0 0, meterIn .holding 6 0, meterIn .holding 7 0, meterIn .fault 8 0,
        meterIn .fault 8 1],
      (cycling m .reset).rstnHigh = true ∧ (cycling m .reset).timebase.due.cycleEvent = true ∧
      (cycling m .reset).converter.backupCount ≤ 7 ∧ (cycling m .reset).converter.state = .running ∧
      (cycling m .reset).station.supplyMode ≠ .backup) ∧
    (sensorReading (.converted 13000)).status = .valid ∧ (sensorReading (.converted (BitVec.ofInt 16 (-2000)))).status = .valid ∧
    (sensorReading (.converted 13001)).status ≠ .valid ∧
    ((cyclingInBackup 0).station.supplyMode = .backup ∧ (cyclingInBackup 0).converter.backupCount ≠ 1) := by decide

theorem witness_CycleEventEnergy :
    let s := cycling (meterIn .normal 0 0) .reset
    let cycled (supply ret : BitVec 16) :=
      (after (.cycleEvent (.converted supply) (.converted ret) (.openCircuit 0) (.openCircuit 0)) s).meters
    s.rstnHigh = true ∧ s.timebase.due.cycleEvent = true ∧ MeteringOk s ∧ s.windows.openEntry = some (.fresh 96041) ∧
    ((cycled 7000 5543).heat.state = .normal ∧ (cycled 7000 5543).heat.supplyValid = true ∧
      (cycled 7000 5543).heat.returnValid = true ∧ 0 < s.meters.heat.pulseCounter * s.items.pulse.get .heat) ∧
    (cycled 5543 7000).heat.heldSupply - (cycled 5543 7000).heat.heldReturn < 0 ∧
    10000 < (cycled 12000 1999).heat.heldSupply - (cycled 12000 1999).heat.heldReturn ∧
    (cycled 7000 5543).cool.supplyValid = false := by
  refine ⟨rfl, rfl, ⟨⟨?_, ?_, ?_, ?_, ?_, ?_, ?_, ?_⟩, meter_stationA, ?_, ?_, ?_⟩, ?_⟩ <;> decide +kernel

/-! ### Witnesses: windows, closes and records -/

/-- Station A in a state with a window boundary issued, the next window's index being `next`. -/
def bounding (state : StationState) (address : Nat) : State :=
  withDue { Due.reset with windowBoundary := true }
    { stationIn state with items := { itemsA with stationAddress := some address } }

theorem witness_WindowBoundaryMoves :
    (∀ state ∈ [StationState.joining, .running, .quieting, .quiet],
      (bounding state 5).rstnHigh = true ∧ (bounding state 5).timebase.due.windowBoundary = true ∧
      (bounding state 5).timebase.due.cycleEvent = false ∧ (bounding state 5).windows.openEntry = some (.fresh 96041)) ∧
    ((bounding .running 5).station.supplyMode = .mains ∧ (bounding .running 5).transmitter.state ≠ .sending ∧
      (bounding .running 5).receiver.gapTimer = 4) := by decide

theorem witness_PeriodicNoticeAtBoundary :
    let sending := { bounding .running 10 with transmitter := (announcing .sending (noticeSlotA .running 0)).transmitter }
    (bounding .running 10).rstnHigh = true ∧ (bounding .running 10).timebase.due.windowBoundary = true ∧
    (bounding .running 10).timebase.due.cycleEvent = false ∧
    (bounding .running 10).windows.openEntry = some (.fresh 96041) ∧
    (bounding .running 10).windows.aheadEntry = some (.fresh 96042) ∧
    ((bounding .running 10).station.supplyMode = .mains ∧ 96042 % 16 = (bounding .running 10).items.stationAddress.getD 0 % 16) ∧
    (sending.transmitter.state = .sending ∧ sending.transmitter.current = some .notice ∧
      sending.windows.aheadEntry = some (.fresh 96042)) ∧
    ((bounding .running 10).transmitter.state ≠ .sending ∧ (bounding .running 10).receiver.gapTimer = 4) ∧
    96042 % 16 ≠ (bounding .running 5).items.stationAddress.getD 0 % 16 := by decide

/-- Station A with a day boundary issued. -/
def midnight : State := withDue { Due.reset with dayBoundary := true } stationA

theorem witness_DayBoundaryRollsContexts :
    (stationA.rstnHigh = true ∧ stationA.timebase.due.dayBoundary = false) ∧
    (midnight.rstnHigh = true ∧ midnight.timebase.due.dayBoundary = true ∧ midnight.contexts.current = some contextA) := by
  decide

theorem witness_ReportAtGraceExpiry :
    (∀ state ∈ [TxState.waitIdle, .backoff, .sending],
      let s := reporting state (slotA 7 false)
      s.rstnHigh = true ∧ s.timebase.due.graceExpiry = true ∧
      s.windows.graceEntry = some { entry96041 with reportStatus := .pending } ∧ s.transmitter.notice = none) ∧
    ((reporting .sending (slotA 7 false)).transmitter.state = .sending ∧
      (reporting .sending (slotA 7 false)).transmitter.current = some .report) ∧
    (∀ reported ∈ [true, false],
      let n := { noticeSlotA .running 0 with stuckReported := reported }
      let s := { reporting .waitIdle (slotA 7 false) with
        transmitter := { (reporting .waitIdle (slotA 7 false)).transmitter with notice := some n, stuckTimer := 15360 } }
      s.rstnHigh = true ∧ s.timebase.due.graceExpiry = true ∧
      s.windows.graceEntry = some { entry96041 with reportStatus := .pending } ∧ s.transmitter.notice = some n ∧
      s.receiver.gapTimer ≠ 4 ∧ s.transmitter.state ≠ .sending ∧ s.transmitter.current = some .report) ∧
    (expiringA.windows.graceEntry = some entry96041 ∧ entry96041.reportStatus ≠ .pending) ∧
    (∀ attempts ∈ [0, 7],
      let s := reporting .sending (slotA attempts false)
      s.rstnHigh = true ∧ s.timebase.due.graceExpiry = true ∧ s.transmitter.testMode = .off ∧ s.receiver.parser = .held ∧
      s.transmitter.report = some (slotA attempts false) ∧ s.transmitter.readBack = .matched 0 ∧
      0 < s.transmitter.currentFrame.length) := by decide +kernel

theorem witness_CloseFoldsIntoContext :
    let complex := (entry96041.own.get .heat).demand + (entry96041.sums.get .heat).demand
    ((contextA.figures.peak.get .heat).map Peak.complexDemand).getD 0 < complex ∧
    (let high := some { index := 96038, complexDemand := 171040, ownDemand := 1, contributors := 1, sharePpm := 1 }
     complex ≤ (high.map Peak.complexDemand).getD 0) ∧
    (itemsA.role = some .tenant ∧ itemsA.weight + entry96041.weightSum ≠ 0) ∧
    (let f := { Figures.fresh with complexEnergy := ⟨2 ^ 48 - 1, 0⟩ }
     2 ^ 48 - 1 ≤ f.complexEnergy.get .heat ∧
      2 ^ 48 - 1 < f.complexEnergy.get .heat + (entry96041.own.get .heat).energy + (entry96041.sums.get .heat).energy) ∧
    ((contextA.close itemsA calendarA entry96041 2).figures.fields48.all fun v => decide (v < 2 ^ 48 - 1)) = true ∧
    itemsA.expected - 1 - 2 ≤ entry96041.contributors.length ∧ ¬itemsA.expected - 1 - 1 ≤ entry96041.contributors.length := by
  decide

/-- Station A after midnight of day 1000, the grace expiry of a window of that day issued. -/
def dayEnd (index records : Nat) (slot : Option Record) : State :=
  { expiringA with
    timebase := { expiringA.timebase with secondOfDay := 120, day := 1001, windowInDay := 0 }
    windows := ⟨some { entry96041 with index := index }, some (.fresh 96096), some (.fresh 96097), none⟩
    contexts := ⟨some { contextA with day := 1001 }, some { contextA with rxSnapshot := some ⟨0, 0, 0, 0⟩ }⟩
    records := { queue := List.replicate records record1002, overflow := slot, discarded := 0 } }

theorem witness_CloseAtGraceExpiry :
    (expiringA.rstnHigh = true ∧ expiringA.timebase.due.graceExpiry = true ∧
      expiringA.windows.graceEntry = some entry96041 ∧ expiringA.contexts.current = some contextA ∧
      ¬entry96041.index / 96 = (contextA.day + 65535) % 65536) ∧
    ((dayEnd 96094 0 none).rstnHigh = true ∧ (dayEnd 96094 0 none).timebase.due.graceExpiry = true ∧
      (dayEnd 96094 0 none).windows.graceEntry = some { entry96041 with index := 96094 } ∧
      (dayEnd 96094 0 none).contexts.current = some { contextA with day := 1001 } ∧
      96094 / 96 = (1001 + 65535) % 65536 ∧ 96094 % 96 + 1 ≠ 96) := by decide

theorem witness_DayEndRecord :
    (∀ n ∈ [7, 8],
      (dayEnd 96095 n none).rstnHigh = true ∧ (dayEnd 96095 n none).timebase.due.graceExpiry = true ∧
      (dayEnd 96095 n none).windows.graceEntry = some { entry96041 with index := 96095 } ∧
      (dayEnd 96095 n none).contexts.current = some { contextA with day := 1001 } ∧
      (dayEnd 96095 n none).contexts.closing = some { contextA with rxSnapshot := some ⟨0, 0, 0, 0⟩ }) ∧
    96095 / 96 = (1001 + 65535) % 65536 ∧ 96095 % 96 + 1 = 96 ∧ (dayEnd 96095 7 none).records.queue.length < 8 ∧
    8 ≤ (dayEnd 96095 8 none).records.queue.length := by decide +kernel

theorem witness_SnapshotReleaseAndClear :
    (∀ n ∈ [0, 7, 8], (queueing n none).portOpen ∧ (queueing n none).contexts.current = some contextA ∧
      (queueing n none).station.state ≠ .unconfigured) ∧
    (blank.portOpen ∧ blank.station.state = .unconfigured) ∧
    (queueing 7 none).records.queue.length < 8 ∧ 8 ≤ (queueing 8 none).records.queue.length ∧
    (queueing 0 none).records.queue = [] ∧ (queueing 1 none).records.queue = record1002 :: [] ∧
    (queueing 1 none).records.overflow = none ∧
    (queueing 8 (some record1003)).records.queue = record1002 :: List.replicate 7 record1002 ∧
    (queueing 8 (some record1003)).records.overflow = some record1003 := by
  unfold State.portOpen; decide +kernel

theorem witness_FetchRecordLayout :
    (stationA.portOpen ∧ stationA.records.queue = []) ∧
    ((queueing 1 none).portOpen ∧ (queueing 1 none).records.queue = record1002 :: []) ∧
    record1002.figures.peak.get .cool = none ∧ record1003.figures.peak.get .cool = some ⟨96350, 52000, 0, 3, 0⟩ := by
  unfold State.portOpen; decide +kernel

/-! ### Witnesses: the line and the peers -/

theorem witness_CharacterReachesTheParser :
    (blank.rstnHigh = true ∧ blank.receiverOn = false) ∧
    ((testing .internal).rstnHigh = true ∧ (testing .internal).transmitter.testMode = .internal ∧
      (testing .internal).transmitter.state ≠ .sending) ∧
    (∀ parser ∈ [ParserState.waitGap, .afterFrame, .ready, .inFrame],
      (parsing parser [0xC3]).rstnHigh = true ∧ (parsing parser [0xC3]).receiverOn = true ∧
      (parsing parser [0xC3]).transmitter.testMode ≠ .internal ∧
      ((parsing parser [0xC3]).receiver.parser = .inFrame → frameComplete (parsing parser [0xC3]).receiver.frame = false)) ∧
    ((parsing .inFrame [0xC3, 0x31]).receiver.frame = [0xC3, 0x31] ∧ frameComplete [0xC3, 0x31] = false) ∧
    (let s := reporting .sending (slotA 0 false)
     s.receiverOn = true ∧ s.receiver.parser = .held ∧ s.transmitter.state = .sending ∧
      s.transmitter.readBack = .matched 0 ∧ s.transmitter.currentFrame[0]? = some 0xC3) ∧
    (let s := { sendingTest .internal with receiver := { Receiver.reset with parser := .ready } }
     s.rstnHigh = true ∧ s.receiverOn = true ∧ s.transmitter.testMode = .internal ∧ s.transmitter.state = .sending ∧
      s.transmitter.readBack = .matched 0 ∧ s.transmitter.currentFrame[0]? = some 0xC3) := by decide +kernel

theorem witness_IdleGapAndStartBit :
    (blank.rstnHigh = true ∧ blank.receiverOn = false) ∧
    (∀ parser ∈ [ParserState.waitGap, .afterFrame, .ready, .inFrame],
      (parsing parser [0xC3]).rstnHigh = true ∧ (parsing parser [0xC3]).receiverOn = true ∧
      (parsing parser [0xC3]).receiver.gapTimer < 4 ∧ (parsing parser [0xC3]).receiver.charInProgress = false ∧
      ((parsing parser [0xC3]).receiver.parser = .inFrame → frameComplete (parsing parser [0xC3]).receiver.frame = false)) ∧
    (let s := reporting .waitIdle (slotA 7 false)
     s.receiverOn = true ∧ s.receiver.gapTimer < 4 ∧ s.transmitter.state = .waitIdle ∧ s.transmitter.current = some .report ∧
      s.transmitter.report = some (slotA 7 false)) ∧
    (let s := announcing .waitIdle (noticeSlotA .running 7)
     s.receiverOn = true ∧ s.transmitter.current = some .notice ∧ s.transmitter.notice = some (noticeSlotA .running 7)) ∧
    ((testing .internal).receiverOn = true ∧ (testing .internal).transmitter.testMode = .internal ∧
      (testing .internal).transmitter.state ≠ .sending) := by decide +kernel

/-- A notice whose announced state is 0x03, which no notice carries. -/
def badNotice : List Octet := [0x11, 0x01, 0x03, 0x00, 0x00, 0x12, 0x34, 0x06, 0x00, 0x00, 0x00]

theorem witness_FrameIsJudged :
    (let s := heard 0x3F (lineTestPayload 7) (testing .external)
     s.rstnHigh = true ∧ s.receiver.parser = .inFrame ∧ payloadLength 0x3F = some (lineTestPayload 7).length ∧
      s.receiver.frame = frameOctets 0x3F (lineTestPayload 7) ∧ octetAt (lineTestPayload 7) 0 = 0x00 ∧
      (lineTestPayload 7).drop 3 = [0x5A, 0xA5, 0x33, 0xCC, 0x0F] ∧ s.transmitter.testMode ≠ .off) ∧
    ((heard 0x3F (lineTestPayload 7) stationA).transmitter.testMode = .off ∧
      (heard 0x3F (lineTestPayload 7) (testing .external)).station.state = .unconfigured) ∧
    (∀ sender ∈ [0, 65, 5],
      let payload := (reportFrom sender .tenant 0 0 0).payload
      (heard 0x31 payload stationA).receiver.frame = frameOctets 0x31 payload ∧
      payloadLength 0x31 = some payload.length ∧ fieldAt payload 0 1 = sender) ∧
    (payloadLength 0x32 = some badNotice.length ∧ octetAt badNotice 2 = 0x03) ∧
    stationA.items.stationAddress = some 5 ∧
    (let frame := 0xC3 :: 0x3F :: 0x08 :: lineTestPayload 7 ++ [0x00, 0x00]
     (parsing .inFrame frame).receiver.frame = frame ∧ (0x00 : Octet) ++ (0x00 : Octet) ≠ crc16 (0x3F :: 0x08 :: lineTestPayload 7)) := by
  decide +kernel

theorem witness_FramesReadBack :
    payloadLength 0x3F = some (lineTestPayload 65535).length ∧
    (let r := { reportFrom 255 .common 65535 4294967295 1099511627775 with day := 65535, windowInDay := 65535, second := 16777215 }
     r.sender < 256 ∧ r.day < 65536 ∧ r.windowInDay < 65536 ∧ r.demand.heat < 2 ^ 32 ∧ r.energy.heat < 2 ^ 40 ∧
      r.weight < 65536 ∧ r.digest < 65536 ∧ r.second < 2 ^ 24) ∧
    (let n := noticeFromG .quiet 65535
     n.sender < 256 ∧ n.weight < 65536 ∧ n.digest < 65536 ∧ n.expected < 256 ∧ n.second < 2 ^ 24) := by decide +kernel

/-- Station A about to judge a report of window `window` of day 1000 from a sender, contributor 64 already in OPEN. -/
def receiving (sender window : Nat) (grace : Option WindowEntry) : State :=
  heard 0x31 { reportFrom sender .tenant 1 1 1 with windowInDay := window }.payload
    { stationA with
      windows := ⟨grace, some { WindowEntry.fresh 96041 with contributors := [64] }, some (.fresh 96042), none⟩ }

theorem witness_WindowReportDisposition :
    (∀ sender ∈ [1, 64], ∀ window ∈ [39, 40, 41, 42, 43],
      let s := receiving sender window none
      let payload := framePayload s.receiver.frame
      s.rstnHigh = true ∧ s.station.state ≠ .unconfigured ∧ s.receiver.parser = .inFrame ∧ payload.length = 32 ∧
      s.receiver.frame = frameOctets 0x31 payload ∧ s.contexts.current = some contextA ∧
      (reportOfPayload payload).sender = sender ∧ s.items.stationAddress ≠ some sender ∧
      (reportOfPayload payload).digest = s.station.digest ∧
      indexDifference .min15 (1000 * 96 + (reportOfPayload payload).windowInDay) 96041 = (window : Int) - 41) ∧
    ((receiving 64 41 none).windows.openEntry.map WindowEntry.contributors = some [64]) ∧
    (receiving 1 40 (some entry96041)).windows.graceEntry = some entry96041 := by decide +kernel

theorem witness_NoticesAndIncompatiblePeers :
    (∀ announced ∈ [NoticeState.joining, .running, .quiet], ∀ digest ∈ [0x1234, 0x4321],
      let payload := (noticeFromG announced digest).payload
      let s := heard 0x32 payload stationA
      s.rstnHigh = true ∧ s.station.state ≠ .unconfigured ∧ s.receiver.parser = .inFrame ∧
      payloadLength 0x32 = some payload.length ∧ s.receiver.frame = frameOctets 0x32 payload ∧ fieldAt payload 0 1 = 17 ∧
      s.items.stationAddress ≠ some 17 ∧ noticeOfPayload payload = some (noticeFromG announced digest)) ∧
    (let payload := { reportFrom 64 .tenant 1 1 1 with digest := 0x1235 }.payload
     let s := heard 0x31 payload stationA
     payloadLength 0x31 = some payload.length ∧ s.receiver.frame = frameOctets 0x31 payload ∧ fieldAt payload 0 1 = 64 ∧
      s.items.stationAddress ≠ some 64 ∧ (reportOfPayload payload).digest ≠ s.station.digest) := by decide +kernel

theorem witness_AttemptStarts :
    (stationA.rstnHigh = true ∧ stationA.transmitter.state ≠ .backoff) ∧
    (let s := reporting .backoff (slotA 7 false)
     s.rstnHigh = true ∧ s.transmitter.state = .backoff ∧ s.transmitter.current = some .report ∧
      s.transmitter.report = some (slotA 7 false)) ∧
    (let s := reporting .sending (slotA 7 false)
     s.lde = true ∧ s.transmitter.state = .sending ∧ s.transmitter.currentFrame[36]?.isSome = true ∧
      s.transmitter.currentFrame.length = 37) ∧
    ((sendingTest .internal).lde = false ∧ (sendingTest .internal).transmitter.state = .sending) ∧
    (let s := announcing .backoff (noticeSlotA .quiet 7)
     s.rstnHigh = true ∧ s.transmitter.state = .backoff ∧ s.transmitter.current = some .notice ∧
      s.transmitter.notice = some (noticeSlotA .quiet 7)) := by decide +kernel

theorem lineQueueOk_reporting (attempts : Nat) (expired : Bool) (h : attempts < 8) :
    LineQueueOk (reporting .sending (slotA attempts expired)) :=
  lineQueueOk_of_checks _ (by simp [reporting, expiringA, stationA, Transmitter.reset, Transmitter.isSending, Due.reset])
    (by simp [reporting, slotA, expiringA, stationA, ReportContent.suits, Transmitter.isSending, h])
    (by simp [reporting, Transmitter.reset])

theorem lineQueueOk_announcing (announced : NoticeState) (attempts : Nat) (h : attempts < 8) :
    LineQueueOk (announcing .sending (noticeSlotA announced attempts)) :=
  lineQueueOk_of_checks _ (by simp [announcing, stationA, Transmitter.reset, Transmitter.isSending, Timebase.reset, Due.reset])
    (by simp [announcing, Transmitter.reset]) (by simp [announcing, noticeSlotA, h])

theorem lineQueueOk_sendingTest : LineQueueOk (sendingTest .external) :=
  lineQueueOk_of_checks _ (by decide)
    (by simp [sendingTest, testing, blank, State.reset, Station.reset, ReportContent.suits]) (by decide)

theorem witness_AttemptCollides :
    (∀ n ∈ [(6, false), (7, false), (0, true)], LineQueueOk (reporting .sending (slotA n.1 n.2))) ∧
    (∀ n ∈ [6, 7], LineQueueOk (announcing .sending (noticeSlotA .quiet n))) ∧
    (LineQueueOk (withDue .reset (reporting .sending (slotA 7 false))) ∧
      ReceiverOk (withDue .reset (reporting .sending (slotA 7 false))) ∧
      (withDue .reset (reporting .sending (slotA 7 false))).timebase.due.graceExpiry = false) ∧
    (reporting .sending (slotA 7 false)).expiryFollows (slotA 7 false).content = true ∧
    (ReceiverOk (reporting .sending (slotA 7 false)) ∧ ReceiverOk (announcing .sending (noticeSlotA .quiet 7))) ∧
    (let s := sendingTest .external
     LineQueueOk s ∧ ReceiverOk s ∧ s.rstnHigh = true ∧ s.transmitter.state = .sending ∧
      s.transmitter.testMode = .external ∧ s.transmitter.readBack = .matched 0 ∧ 0 < s.transmitter.currentFrame.length) ∧
    (let s := reporting .sending (slotA 7 false)
     s.rstnHigh = true ∧ s.transmitter.state = .sending ∧ s.transmitter.testMode ≠ .internal ∧
      s.transmitter.readBack = .matched 0 ∧ 0 < s.transmitter.currentFrame.length ∧
      s.transmitter.current = some .report ∧ s.transmitter.report = some (slotA 7 false)) ∧
    (let s := announcing .sending (noticeSlotA .quiet 7)
     s.rstnHigh = true ∧ s.transmitter.state = .sending ∧ 0 < s.transmitter.currentFrame.length ∧
      s.transmitter.current = some .notice ∧ s.transmitter.notice = some (noticeSlotA .quiet 7)) :=
  ⟨fun n h => lineQueueOk_reporting n.1 n.2 (by fin_cases h <;> decide),
   fun n h => lineQueueOk_announcing .quiet n (by fin_cases h <;> decide),
   ⟨{ lineQueueOk_reporting 7 false (by decide) with
      reportAttempts := fun r h => .inl (by cases h; decide), oneMoment := by decide },
    receiverOk_of_checks _ (by decide), rfl⟩, by decide +kernel,
   ⟨receiverOk_of_checks _ (by decide), receiverOk_of_checks _ (by decide)⟩,
   ⟨lineQueueOk_sendingTest, receiverOk_of_checks _ (by decide), rfl, rfl, rfl, rfl, by decide +kernel⟩,
   by decide +kernel, by decide +kernel⟩

theorem witness_AttemptSucceeds :
    LineQueueOk (reporting .sending (slotA 0 false)) ∧ LineQueueOk (reporting .sending (slotA 0 true)) ∧
    LineQueueOk (announcing .sending (noticeSlotA .quiet 0)) ∧
    (let s := { sendingTest .external with receiver := { Receiver.reset with parser := .ready } }
     LineQueueOk s ∧ s.receiver.parser = .ready ∧ s.transmitter.readBack = .matched 0 ∧
      s.transmitter.report.map ReportSlot.content = some (.lineTest 7)) ∧
    (let s := reporting .sending (slotA 0 false)
     s.rstnHigh = true ∧ s.transmitter.state = .sending ∧ s.transmitter.readBack ≠ .differed ∧ s.transmitter.testMode = .off) ∧
    (let s := sendingTest .external
     s.rstnHigh = true ∧ s.transmitter.state = .sending ∧ s.transmitter.readBack ≠ .differed ∧
      s.transmitter.testMode ≠ .off ∧ s.station.state = .unconfigured ∧ s.transmitter.current = some .report) :=
  ⟨lineQueueOk_reporting 0 false (by decide), lineQueueOk_reporting 0 true (by decide),
    lineQueueOk_announcing .quiet 0 (by decide),
    ⟨{ lineQueueOk_sendingTest with }, rfl, rfl, rfl⟩,
    by decide +kernel, by decide +kernel⟩

theorem witness_StuckLineAndClearFailure :
    stationA.portOpen ∧ ¬(stationA.transmitter.state = .waitIdle) ∧
    (∀ reported ∈ [true, false],
      let s := reporting .waitIdle { slotA 0 false with stuckReported := reported }
      s.rstnHigh = true ∧ s.transmitter.state = .waitIdle ∧ s.receiverOn = true ∧ s.transmitter.testMode ≠ .internal ∧
      s.transmitter.current = some .report ∧ s.transmitter.report = some { slotA 0 false with stuckReported := reported }) ∧
    (∀ reported ∈ [true, false],
      let s := announcing .waitIdle { noticeSlotA .quiet 0 with stuckReported := reported }
      s.rstnHigh = true ∧ s.transmitter.state = .waitIdle ∧ s.receiverOn = true ∧ s.transmitter.testMode ≠ .internal ∧
      s.transmitter.current = some .notice ∧
      s.transmitter.notice = some { noticeSlotA .quiet 0 with stuckReported := reported }) := by
  unfold State.portOpen; decide +kernel

theorem witness_RestartLine :
    (blank.portOpen ∧ blank.station.state = .unconfigured) ∧
    ((reporting .sending (slotA 2 true)).portOpen ∧ (reporting .sending (slotA 2 true)).station.state ≠ .unconfigured) := by
  unfold State.portOpen; decide

theorem lineQueueOk_testing : LineQueueOk (testing .external) :=
  lineQueueOk_of_checks _ (by decide) (by simp [testing, Transmitter.reset]) (by decide)

theorem witness_LineTestCommands :
    ((testing .external).portOpen ∧ (testing .external).station.state = .unconfigured ∧ LineQueueOk (testing .external) ∧
      2 < (0x03 : Octet).toNat ∧ (testing .external).transmitter.testMode = .external ∧
      (testing .external).transmitter.report = none ∧ (testing .external).receiver.gapTimer ≠ 4) ∧
    ({ testing .external with receiver := { Receiver.reset with parser := .ready, gapTimer := 4 } }.receiver.gapTimer = 4 ∧
      { testing .external with receiver := { Receiver.reset with parser := .ready, gapTimer := 4 } }.portOpen ∧
      LineQueueOk { testing .external with receiver := { Receiver.reset with parser := .ready, gapTimer := 4 } }) ∧
    LineQueueOk blank ∧ blank.transmitter.testMode = .off :=
  ⟨⟨⟨rfl, rfl⟩, rfl, lineQueueOk_testing, by decide⟩, ⟨rfl, ⟨rfl, rfl⟩, { lineQueueOk_testing with }⟩,
    lineQueueOk_of_checks _ (by decide) (by simp [blank, State.reset, Transmitter.reset]) (by decide), rfl⟩

/-! ### Witnesses: the Station Controller, the Cause Unit and the whole machine -/

/-- A blank station with the items and the time that COMMISSION requires. -/
def loaded : State :=
  { blank with
    items := itemsA, calendar := calendarA
    timebase := { Timebase.reset with clockValid := true, secondOfDay := 86399, day := 65535 } }

theorem witness_CommissionEntersService :
    (blank.portOpen ∧ blank.station.state = .unconfigured ∧ blank.timebase.clockValid = false) ∧
    (loaded.portOpen ∧ loaded.station.state = .unconfigured ∧ loaded.timebase.clockValid = true ∧
      loaded.items.stationAddress = some 5 ∧ loaded.items.role = some .tenant ∧ loaded.items.windowLength = some .min15) := by
  unfold State.portOpen; decide

theorem witness_QuietAndSpeak :
    (stationA.portOpen ∧ LineQueueOk stationA ∧ stationA.station.state = .running ∧ stationA.station.supplyMode = .mains ∧
      stationA.transmitter.state ≠ .sending ∧ stationA.transmitter.report = none ∧ stationA.receiver.gapTimer = 4) ∧
    (let s := announcing .sending (noticeSlotA .running 0)
     s.portOpen ∧ LineQueueOk s ∧ s.station.state = .running ∧ s.transmitter.state = .sending ∧
      s.transmitter.current = some .notice) ∧
    (∀ state ∈ [StationState.unconfigured, .joining, .quiet], LineQueueOk (stationIn state) ∧ (stationIn state).portOpen) ∧
    (let s := { stationIn .quiet with station := { stationA.station with state := .quiet, supplyMode := .recovering } }
     s.portOpen ∧ LineQueueOk s ∧ s.station.supplyMode ≠ .mains) := by
  refine ⟨⟨⟨rfl, rfl⟩, lineQueueOk_stationA, by decide⟩,
    ⟨⟨rfl, rfl⟩, lineQueueOk_announcing .running 0 (by decide), rfl, rfl, rfl⟩, ?_,
    ⟨rfl, rfl⟩, lineQueueOk_of_checks _ (by decide) (by simp [stationIn, stationA, State.reset, Transmitter.reset]) (by decide),
    by decide⟩
  intro state h
  refine ⟨lineQueueOk_of_checks _ ?_ (by simp [stationIn, stationA, State.reset, Transmitter.reset])
    (by simp [stationIn, stationA, State.reset, Transmitter.reset]), rfl, rfl⟩
  fin_cases h <;> decide

theorem witness_FullReset :
    stationA.portOpen ∧ stationA.rstnHigh = true ∧ { State.reset with rstnHigh := false }.rstnHigh = false := by
  unfold State.portOpen; decide

theorem witness_SupplyModes :
    (let s := reporting .sending (slotA 0 true)
     s.rstnHigh = true ∧ s.pfailnHigh = true ∧ s.station.supplyMode ≠ .backup ∧ s.transmitter.report = some (slotA 0 true)) ∧
    (let s := reporting .waitIdle (slotA 0 false)
     s.pfailnHigh = true ∧ ∀ f, s.transmitter.report = some f → f.expired = false) ∧
    (let s := { announcing .waitIdle (noticeSlotA .quiet 0) with station := (stationIn .quieting).station }
     s.pfailnHigh = true ∧ s.transmitter.notice = some (noticeSlotA .quiet 0) ∧ s.station.state = .quieting) ∧
    ((cyclingInBackup 7).rstnHigh = true ∧ (cyclingInBackup 7).pfailnHigh = false ∧
      (cyclingInBackup 7).station.supplyMode = .backup ∧ (cyclingInBackup 7).station.state ≠ .unconfigured) ∧
    (let s := { blank with pfailnHigh := false, station := { Station.reset with supplyMode := .backup } }
     s.pfailnHigh = false ∧ s.station.supplyMode = .backup ∧ s.station.state = .unconfigured) ∧
    (let s := { stationA with station := { stationA.station with supplyMode := .recovering } }
     s.station.supplyMode = .recovering ∧ s.station.recoveryCount = 0) := by
  refine ⟨by decide, ⟨rfl, fun f h => ?_⟩, by decide, by decide, by decide, by decide⟩
  cases h; rfl

theorem witness_CauseUnitRules :
    (stationA.portOpen ∧ stationA.causes.pending = 0#10) ∧
    (let s := { stationA with causes := ⟨0b1000000000, 1, true, .pulse, true⟩ }
     s.portOpen ∧ s.causes.pending.getLsbD 9 = true ∧ (∀ k, k < 9 → s.causes.pending.getLsbD k = false) ∧
      s.rstnHigh = true ∧ s.causes.mode = .pulse) ∧
    1 < (0x02 : Octet).toNat ∧ (0x01 : Octet).toNat ≤ 1 ∧ stationA.causes.mode = .level := by
  unfold State.portOpen; decide

theorem witness_OnlyTheseCommands :
    exec (.flowPulse .heat) stationA = .next (after (.flowPulse .heat) stationA) ∧
    stationA.station.state ≠ .unconfigured ∧
    (let s := { stationA with causes := { CauseUnit.reset with pending := 0b0000010000 } }
     flagOf s.causes.pending .txFailure = true ∧ exec .clearFailure s = .next (after .clearFailure s)) :=
  ⟨rfl, by decide, by decide, rfl⟩

/-- Station A with a command waiting. -/
def waitingA (c : Instr) : State := { stationA with pending := [c] }

theorem witness_StepKeepsHeldAtReset :
    HeldAtReset (waitingA .rstnFalling) ∧ step (waitingA .rstnFalling) = .next (after .rstnFalling stationA) ∧
    (after .rstnFalling stationA).rstnHigh = false := ⟨(fun h => by cases h), rfl, rfl⟩

theorem witness_StepKeepsStation :
    HeldAtReset (waitingA .pfailnFalling) ∧ StationOk (waitingA .pfailnFalling) ∧
    step (waitingA .pfailnFalling) = .next (after .pfailnFalling stationA) :=
  ⟨(fun h => by cases h), { station_stationA with }, rfl⟩

theorem witness_StepKeepsClock :
    HeldAtReset (waitingA .countedSecondEnd) ∧ StationOk (waitingA .countedSecondEnd) ∧
    ClockOk (waitingA .countedSecondEnd) ∧ step (waitingA .countedSecondEnd) = .next (after .countedSecondEnd stationA) :=
  ⟨(fun h => by cases h), { station_stationA with }, { clock_stationA with }, rfl⟩

theorem witness_StepKeepsWindowsAndPeers :
    HeldAtReset (waitingA .restartLine) ∧ StationOk (waitingA .restartLine) ∧ ClockOk (waitingA .restartLine) ∧
    WindowsOk (waitingA .restartLine) ∧ PeersOk (waitingA .restartLine) ∧
    step (waitingA .restartLine) = .next (after .restartLine stationA) :=
  ⟨(fun h => by cases h), { station_stationA with }, { clock_stationA with }, { windows_stationA with },
    { peers_stationA with }, rfl⟩

theorem witness_StepKeepsRanges :
    ItemsOk (waitingA .snapshot) ∧ CausesOk (waitingA .snapshot) ∧ QueueOk (waitingA .snapshot) ∧
    FieldsFit (waitingA .snapshot) ∧ step (waitingA .snapshot) = .next (after .snapshot stationA) :=
  ⟨{ items_stationA with }, ranges_stationA.1, ranges_stationA.2, { fields_stationA with }, rfl⟩

theorem witness_StepKeepsMetering :
    HeldAtReset (waitingA (.flowPulse .heat)) ∧ MeteringOk (waitingA (.flowPulse .heat)) ∧
    step (waitingA (.flowPulse .heat)) = .next (after (.flowPulse .heat) stationA) :=
  ⟨(fun h => by cases h), { metering_stationA with }, rfl⟩

theorem witness_StepKeepsLine :
    HeldAtReset (waitingA .quiet) ∧ StationOk (waitingA .quiet) ∧ ReceiverOk (waitingA .quiet) ∧
    LineQueueOk (waitingA .quiet) ∧ step (waitingA .quiet) = .next (after .quiet stationA) :=
  ⟨(fun h => by cases h), { station_stationA with }, { receiver_stationA with }, { lineQueueOk_stationA with }, rfl⟩

end Sys2Proof.Tests
end

/-! SUPPORT. The window calendar and the clock: windows of a day and their slots (R26, R36), global indices and their
differences (R31, R32), the band of a window (R38), and SET CLOCK (R23). -/

namespace Sys2Proof.Machine

/-! ### Windows of a day -/

theorem WindowLength.perDay_mul_minutes (l : WindowLength) : l.perDay * l.minutes = 1440 := by cases l <;> rfl

theorem WindowLength.perDay_pos (l : WindowLength) : 0 < l.perDay := by
  have h := l.perDay_mul_minutes
  exact Nat.pos_of_ne_zero fun h0 => by simp [h0] at h

/-- R36: every window of a day begins in one of the forty-eight slots. -/
theorem WindowLength.slot_lt (l : WindowLength) (x : Nat) : x % l.perDay * l.minutes / 30 < 48 := by
  have hday := l.perDay_mul_minutes
  have hminutes : 0 < l.minutes := Nat.pos_of_ne_zero fun h0 => by simp [h0] at hday
  have hbegin : x % l.perDay * l.minutes < l.perDay * l.minutes :=
    Nat.mul_lt_mul_of_pos_right (Nat.mod_lt x l.perDay_pos) hminutes
  omega

/-! ### The band of a window (R38) -/

/-- R36: the two bits of a slot, slot 8n in the most significant bits of item n. -/
theorem SlotMap.band_eq_shiftRight (m : SlotMap) (slot : Nat) :
    m.band slot = ((m.item (slot / 8)).toNat >>> (14 - 2 * (slot % 8))) % 4 := by
  have hbits : 14 - 2 * (slot % 8) = 2 * (7 - slot % 8) := by omega
  rw [SlotMap.band, Nat.shiftRight_eq_div_pow, hbits, pow_mul, show 2 ^ 2 = 4 from rfl]

/-- R38: the weekend types of the week's days, and the holidays. -/
theorem Calendar.isWeekend_iff (c : Calendar) (day : Nat) :
    c.isWeekend day = true ↔
      (c.epochWeekday + day) % 7 = 5 ∨ (c.epochWeekday + day) % 7 = 6 ∨ day ∈ c.holidays := by
  have hweek : 5 ≤ (c.epochWeekday + day) % 7 ↔
      (c.epochWeekday + day) % 7 = 5 ∨ (c.epochWeekday + day) % 7 = 6 := by omega
  simp [Calendar.isWeekend, hweek, or_assoc]

theorem bandOf_of_weekend {c : Calendar} {l : WindowLength} {x : Nat} (h : c.isWeekend (x / l.perDay) = true) :
    bandOf c l x = c.weekend.band (x % l.perDay * l.minutes / 30) := by
  simp [bandOf, h]

theorem bandOf_of_weekday {c : Calendar} {l : WindowLength} {x : Nat} (h : ¬c.isWeekend (x / l.perDay) = true) :
    bandOf c l x = c.weekday.band (x % l.perDay * l.minutes / 30) := by
  simp [bandOf, h]

/-! ### Global indices (R31, R32) -/

/-- A window of a day below 65536 has a global index below M, and reducing modulo M changes nothing. -/
theorem dayIndex_lt_modulus {l : WindowLength} {day window : Nat} (hday : day < 65536) (hwindow : window < l.perDay) :
    day * l.perDay + window < l.modulus :=
  calc day * l.perDay + window < (day + 1) * l.perDay := by rw [Nat.succ_mul]; omega
    _ ≤ l.modulus := Nat.mul_le_mul_right _ hday

theorem globalIndex_of_lt {l : WindowLength} {day window : Nat} (hday : day < 65536) (hwindow : window < l.perDay) :
    globalIndex l day window = day * l.perDay + window :=
  Nat.mod_eq_of_lt (dayIndex_lt_modulus hday hwindow)

theorem globalIndex_div {l : WindowLength} {day window : Nat} (hday : day < 65536) (hwindow : window < l.perDay) :
    globalIndex l day window / l.perDay = day := by
  rw [globalIndex_of_lt hday hwindow, Nat.mul_comm, Nat.mul_add_div l.perDay_pos, Nat.div_eq_of_lt hwindow, Nat.add_zero]

theorem globalIndex_mod {l : WindowLength} {day window : Nat} (hday : day < 65536) (hwindow : window < l.perDay) :
    globalIndex l day window % l.perDay = window := by
  rw [globalIndex_of_lt hday hwindow, Nat.mul_comm, Nat.mul_add_mod, Nat.mod_eq_of_lt hwindow]

/-- R32: a difference of indices lies in -(M / 2) .. M / 2 - 1; M is even. -/
theorem indexDifference_range (l : WindowLength) (x y : Nat) :
    -((l.modulus : Int) / 2) ≤ indexDifference l x y ∧ indexDifference l x y < (l.modulus : Int) / 2 := by
  have hpos := l.perDay_pos
  have heven : (l.modulus : Int) = 2 * ((l.modulus : Int) / 2) := by unfold WindowLength.modulus; omega
  have hmodulus : 0 < (l.modulus : Int) := by unfold WindowLength.modulus; omega
  have hlow := Int.emod_nonneg ((x : Int) - y + l.modulus / 2) hmodulus.ne'
  have hhigh := Int.emod_lt_of_pos ((x : Int) - y + l.modulus / 2) hmodulus
  simp only [indexDifference]
  omega

/-- R32: a difference of indices is x - y up to a multiple of M. -/
theorem indexDifference_congr (l : WindowLength) (x y : Nat) :
    (indexDifference l x y - ((x : Int) - y)) % l.modulus = 0 := by
  have hdivision := Int.emod_add_mul_ediv ((x : Int) - y + l.modulus / 2) l.modulus
  refine Int.emod_eq_zero_of_dvd ⟨-(((x : Int) - y + l.modulus / 2) / l.modulus), ?_⟩
  simp only [indexDifference]
  linarith

/-! ### Taking SET CLOCK (R23) -/

theorem exec_setClock (day : BitVec 16) (second : BitVec 24) (s : State) :
    exec (.setClock day second) s = takeCommand (unconfiguredOnly 0 (setClockEffect day second)) s := rfl

theorem takeCommand_of_portOpen {e : State → State × List Octet} {s : State} (h : s.portOpen) :
    takeCommand e s = .next { (e s).1 with port := { phase := .taken, response := (e s).2 } } :=
  takeCommand_of_opened h.1 h.2

/-- A command that answers its status alone, with no response octets, changes nothing but the port. -/
theorem takeCommand_of_statusOnly {e : State → State × List Octet} {s : State} {x : Status} (h : s.portOpen)
    (he : e s = statusOnly x 0 s) : takeCommand e s = .next (s.answered x []) := by
  rw [takeCommand_of_portOpen h, he]; rfl

/-- A command that answers a state and a status with response octets leaves that state, answered. -/
theorem takeCommand_of_respond {e : State → State × List Octet} {s t : State} {x : Status} {body : List Octet}
    (h : s.portOpen) (he : e s = (t, respond x body)) : takeCommand e s = .next (t.answered x body) := by
  rw [takeCommand_of_portOpen h, he]; rfl

theorem setClockEffect_of_late {second : BitVec 24} (h : 86399 < second.toNat) (day : BitVec 16) (s : State) :
    setClockEffect day second s = statusOnly .badValue 0 s := if_pos h

theorem setClockEffect_of_inDay {second : BitVec 24} (h : second.toNat ≤ 86399) (day : BitVec 16) (s : State) :
    setClockEffect day second s =
      ({ s with
          timebase :=
            { s.timebase with
              clockValid := true, day := day.toNat, secondOfDay := second.toNat, secondFraction := 0 } },
        respond .ok []) := if_neg (by omega)

/-! ### The settled statements -/

/-- Settles O17: the state check, then the two cases of the second-of-day. -/
theorem setClock : Obligations.SetClock := by
  intro s day second hopen
  rw [exec_setClock]
  refine ⟨fun hstate => ?commissioned, fun hstate hlate => ?late, fun hstate hinDay => ?inDay⟩
  case commissioned => exact takeCommand_of_statusOnly hopen (unconfiguredOnly_of_commissioned hstate)
  case late =>
    refine takeCommand_of_statusOnly hopen ?_
    rw [unconfiguredOnly_of_unconfigured hstate, setClockEffect_of_late hlate]
  case inDay =>
    refine takeCommand_of_respond hopen ?_
    rw [unconfiguredOnly_of_unconfigured hstate, setClockEffect_of_inDay hinDay]

/-- Settles O16: R36 and R38 by the day's type, R31 by division with remainder, R32 by reduction modulo an even M. -/
theorem indicesAndBandsOfWindows : Obligations.IndicesAndBandsOfWindows := by
  refine ⟨fun c l x => ⟨l.slot_lt x, fun hweekend => ?weekend, fun hweekday => ?weekday⟩, fun l =>
    ⟨fun day window hday hwindow => ⟨?below, globalIndex_div hday hwindow, globalIndex_mod hday hwindow⟩,
      fun x y => ?difference, fun _ _ => rfl⟩⟩
  case weekend => rw [bandOf_of_weekend ((c.isWeekend_iff _).2 hweekend), SlotMap.band_eq_shiftRight]
  case weekday => rw [bandOf_of_weekday (mt (c.isWeekend_iff _).1 hweekday), SlotMap.band_eq_shiftRight]
  case below =>
    rw [globalIndex_of_lt hday hwindow]
    exact dayIndex_lt_modulus hday hwindow
  case difference =>
    have hmodulus : (l.modulus : Int) = 65536 * l.perDay := by simp [WindowLength.modulus]
    have hrange := indexDifference_range l x y
    have hcongr := indexDifference_congr l x y
    rw [hmodulus] at hrange hcongr
    exact ⟨by omega, hrange.2, hcongr⟩

end Sys2Proof.Machine

/-! SUPPORT. The host's view of the Window Table: READ WINDOW's places, flag octets, contributor map and layout (R66, R193,
R199). -/

namespace Sys2Proof.Machine

/-! ### Octets of a number, bit by bit (R193) -/

/-- An octet of a number written with the most significant first. -/
theorem octetAt_octets {n i : Nat} (h : i < n) (v : Nat) :
    octetAt (octets n v) i = BitVec.ofNat 8 (v / 256 ^ (n - 1 - i)) := by
  induction n generalizing i with
  | zero => omega
  | succ n ih =>
    cases i with
    | zero => rfl
    | succ i =>
      have hpower : n + 1 - 1 - (i + 1) = n - 1 - i := by omega
      rw [hpower, ← ih (by omega)]
      rfl

/-- Bit j of octet i of a number in n octets is a bit of the number. -/
theorem octetAt_octets_getLsbD {n i j : Nat} (hi : i < n) (hj : j < 8) (v : Nat) :
    (octetAt (octets n v) i).getLsbD j = v.testBit (8 * (n - 1 - i) + j) := by
  have hpower : 256 ^ (n - 1 - i) = 2 ^ (8 * (n - 1 - i)) := by rw [pow_mul]; rfl
  rw [octetAt_octets hi, BitVec.getLsbD_ofNat, hpower, Nat.testBit_div_two_pow, Nat.add_comm j]
  simp [hj]

/-! ### The contributor map (R193) -/

@[simp] theorem contributorMap_length (l : List Nat) : (contributorMap l).length = 8 := octets_length 8 _

/-- The map's number over addresses above `a` leaves bit 64 - a and all bits above it clear. -/
theorem contributorSum_lt {l : List Nat} {a : Nat} (hasc : Ascending (a :: l)) (hl : ∀ b ∈ l, b ≤ 64) :
    (l.map fun b => 2 ^ (64 - b)).sum < 2 ^ (64 - a) := by
  induction l generalizing a with
  | nil => simp
  | cons b l ih =>
    obtain ⟨hfirst, hrest⟩ := List.pairwise_cons.1 hasc
    have hab : a < b := hfirst b (by simp)
    have hb : b ≤ 64 := hl b (by simp)
    have htail := ih hrest fun c hc => hl c (by simp [hc])
    calc ((b :: l).map fun c => 2 ^ (64 - c)).sum
        = 2 ^ (64 - b) + (l.map fun c => 2 ^ (64 - c)).sum := by simp
      _ < 2 ^ (64 - b) + 2 ^ (64 - b) := by omega
      _ = 2 ^ (64 - b + 1) := by rw [pow_succ]; omega
      _ ≤ 2 ^ (64 - a) := Nat.pow_le_pow_right (by decide) (by omega)

/-- Bit 64 - a of the map's number is set exactly where `a` is a contributor. -/
theorem contributorSum_testBit {l : List Nat} {a : Nat} (hasc : Ascending l) (hl : ∀ b ∈ l, b ≤ 64) (ha : a ≤ 64) :
    (l.map fun b => 2 ^ (64 - b)).sum.testBit (64 - a) = decide (a ∈ l) := by
  induction l with
  | nil => simp
  | cons b l ih =>
    have hb : b ≤ 64 := hl b (by simp)
    have hsum := contributorSum_lt hasc fun c hc => hl c (by simp [hc])
    have hbelow := ih (List.pairwise_cons.1 hasc).2 fun c hc => hl c (by simp [hc])
    have habove : ∀ c ∈ l, b < c := (List.pairwise_cons.1 hasc).1
    have hsplit := Nat.testBit_two_pow_mul_add 1 hsum (64 - a)
    rw [mul_one] at hsplit
    rw [List.map_cons, List.sum_cons, hsplit]
    split
    · next hlt =>
      have hne : a ≠ b := by omega
      simp [hbelow, hne]
    · next hge =>
      have hnot : a ∉ l := fun h => by have := habove a h; omega
      have hbit : 64 - a - (64 - b) = 0 ↔ a = b := by omega
      rw [Bool.eq_iff_iff, Nat.testBit_one_eq_true_iff_self_eq_zero, hbit]
      simp [hnot]

/-- R193: address a stands in bit 7 - ((a - 1) mod 8) of octet (a - 1) / 8 of the map. -/
theorem contributorMap_bit {l : List Nat} {a : Nat} (hasc : Ascending l) (hl : ∀ b ∈ l, b ≤ 64) (hlow : 1 ≤ a)
    (hhigh : a ≤ 64) :
    (octetAt (contributorMap l) ((a - 1) / 8)).getLsbD (7 - (a - 1) % 8) = decide (a ∈ l) := by
  have hbit : 8 * (8 - 1 - (a - 1) / 8) + (7 - (a - 1) % 8) = 64 - a := by omega
  rw [contributorMap, octetAt_octets_getLsbD (by omega) (by omega), hbit, contributorSum_testBit hasc hl hhigh]

/-! ### The parts of a window entry (R199) -/

/-- R193: the own-flag octet, bit by bit; bits 5 to 7 are clear. -/
theorem OwnFlags.octet_bits (f : OwnFlags) :
    f.octet.getLsbD 0 = f.estimated ∧ f.octet.getLsbD 1 = f.faulted ∧ f.octet.getLsbD 2 = f.backup ∧
    f.octet.getLsbD 3 = f.partialWindow ∧ f.octet.getLsbD 4 = f.overrange ∧ f.octet.toNat < 32 := by
  obtain ⟨estimated, faulted, backup, partialWindow, overrange⟩ := f
  revert estimated faulted backup partialWindow overrange
  decide

@[simp] theorem OwnPart.octets_length (o : OwnPart) : o.octets.length = 18 := by simp [OwnPart.octets]

@[simp] theorem PeerSums.octets_length (p : PeerSums) : p.octets.length = 18 := by simp [PeerSums.octets]

@[simp] theorem windowOctets_length (place : Place) (e : WindowEntry) : (windowOctets place e).length = 92 := by
  simp [windowOctets]

/-- R199: the fields of an own part. -/
theorem OwnPart.octets_fields (o : OwnPart) :
    fieldAt o.octets 0 5 = o.energy % 1099511627776 ∧ fieldAt o.octets 5 4 = o.metered % 4294967296 ∧
    fieldAt o.octets 9 4 = o.unmetered % 4294967296 ∧ fieldAt o.octets 13 4 = o.demand % 4294967296 ∧
    octetAt o.octets 17 = o.flags.octet := by
  simp [OwnPart.octets, fieldAt_append_left, fieldAt_append_right, octetAt_append_right]

/-- R199: the fields of the peer sums. -/
theorem PeerSums.octets_fields (p : PeerSums) :
    fieldAt p.octets 0 6 = p.demand % 281474976710656 ∧ fieldAt p.octets 6 6 = p.energy % 281474976710656 ∧
    fieldAt p.octets 12 6 = p.common % 281474976710656 := by
  simp [PeerSums.octets, fieldAt_append_left, fieldAt_append_right]

/-- R199: the own parts stand at offsets 5 and 23. -/
theorem windowOctets_own (place : Place) (e : WindowEntry) {p : Plant} {base : Nat}
    (hbase : p = .heat ∧ base = 5 ∨ p = .cool ∧ base = 23) :
    fieldAt (windowOctets place e) base 5 = (e.own.get p).energy % 1099511627776 ∧
    fieldAt (windowOctets place e) (base + 5) 4 = (e.own.get p).metered % 4294967296 ∧
    fieldAt (windowOctets place e) (base + 9) 4 = (e.own.get p).unmetered % 4294967296 ∧
    fieldAt (windowOctets place e) (base + 13) 4 = (e.own.get p).demand % 4294967296 ∧
    octetAt (windowOctets place e) (base + 17) = (e.own.get p).flags.octet := by
  rcases hbase with ⟨rfl, rfl⟩ | ⟨rfl, rfl⟩ <;>
    simp [windowOctets, fieldAt_append_left, fieldAt_append_right, octetAt_append_left, octetAt_append_right,
      fieldAt_cons, OwnPart.octets_fields, PerPlant.get]

/-- R199: the peer sums stand at offsets 55 and 73. -/
theorem windowOctets_sums (place : Place) (e : WindowEntry) {p : Plant} {base : Nat}
    (hbase : p = .heat ∧ base = 55 ∨ p = .cool ∧ base = 73) :
    fieldAt (windowOctets place e) base 6 = (e.sums.get p).demand % 281474976710656 ∧
    fieldAt (windowOctets place e) (base + 6) 6 = (e.sums.get p).energy % 281474976710656 ∧
    fieldAt (windowOctets place e) (base + 12) 6 = (e.sums.get p).common % 281474976710656 := by
  rcases hbase with ⟨rfl, rfl⟩ | ⟨rfl, rfl⟩ <;>
    simp [windowOctets, fieldAt_append_left, fieldAt_append_right, fieldAt_cons, PeerSums.octets_fields, PerPlant.get]

/-- R193, R199: the fields that an entry holds once. -/
theorem windowOctets_fields (place : Place) (e : WindowEntry) :
    fieldAt (windowOctets place e) 0 4 = e.index % 4294967296 ∧ octetAt (windowOctets place e) 4 = place.code ∧
    fieldAt (windowOctets place e) 41 2 = e.reverseCount % 65536 ∧
    octetAt (windowOctets place e) 43 = e.reportStatus.code ∧
    fieldAt (windowOctets place e) 52 3 = e.weightSum % 16777216 ∧
    fieldAt (windowOctets place e) 91 1 = e.estimatedContributors % 256 := by
  simp [windowOctets, fieldAt_append_left, fieldAt_append_right, octetAt_append_right, fieldAt_cons]

/-- R199: the contributor map stands in octets 44 to 51. -/
theorem octetAt_windowOctets_map (place : Place) (e : WindowEntry) {k : Nat} (hk : k < 8) :
    octetAt (windowOctets place e) (44 + k) = octetAt (contributorMap e.contributors) k := by
  have hsplit : windowOctets place e =
      (octets 4 e.index ++ [place.code] ++ e.own.heat.octets ++ e.own.cool.octets ++ octets 2 e.reverseCount
        ++ [e.reportStatus.code]) ++ (contributorMap e.contributors ++
      (octets 3 e.weightSum ++ e.sums.heat.octets ++ e.sums.cool.octets ++ octets 1 e.estimatedContributors)) := by
    simp [windowOctets]
  rw [hsplit, octetAt_append_right _ _ _ (by simp), octetAt_append_left _ _ _ (by simpa using hk)]
  simp

/-! ### The places a selector names (R66, R193) -/

@[simp] theorem placeOfCode_code (place : Place) : placeOfCode place.code = some place := by cases place <;> rfl

/-- R183: a selector above 2 names no place. -/
theorem placeOfCode_of_above {selector : Octet} (h : 2 < selector.toNat) : placeOfCode selector = none := by
  have h0 : selector ≠ 0x00 := by rintro rfl; simp at h
  have h1 : selector ≠ 0x01 := by rintro rfl; simp at h
  have h2 : selector ≠ 0x02 := by rintro rfl; simp at h
  rw [placeOfCode, if_neg h0, if_neg h1, if_neg h2]

/-- R66, R193: the three selectors are the codes of the three places. -/
theorem exists_place_of_selector {w : WindowTable} {selector : Octet} {entry : Option WindowEntry}
    (h : selector = 0x00 ∧ entry = w.graceEntry ∨ selector = 0x01 ∧ entry = w.openEntry ∨
      selector = 0x02 ∧ entry = w.aheadEntry) :
    ∃ place : Place, selector = place.code ∧ entry = w.at place := by
  rcases h with h | h | h
  exacts [⟨.grace, h⟩, ⟨.opened, h⟩, ⟨.ahead, h⟩]

/-! ### Taking READ WINDOW (R66) -/

theorem exec_readWindow (selector : Octet) (s : State) :
    exec (.readWindow selector) s = takeCommand (readWindowEffect selector) s := rfl

theorem readWindowEffect_of_noPlace {selector : Octet} (h : placeOfCode selector = none) (s : State) :
    readWindowEffect selector s = (s, respond .badValue (zeros 92)) := by
  simp [readWindowEffect, h, statusOnly, windowLengthOctets]

theorem readWindowEffect_of_empty {s : State} {place : Place} (h : s.windows.at place = none) :
    readWindowEffect place.code s = (s, respond .empty (zeros 92)) := by
  simp [readWindowEffect, h, statusOnly, windowLengthOctets]

theorem readWindowEffect_of_entry {s : State} {place : Place} {e : WindowEntry} (h : s.windows.at place = some e) :
    readWindowEffect place.code s = (s, respond .ok (windowOctets place e)) := by
  simp [readWindowEffect, h]

/-! ### The settled statement -/

/-- Settles O9: the selector names a place or none, and the place is empty or holds the entry that is laid out. -/
theorem readWindowLayout : Obligations.ReadWindowLayout := by
  intro s selector hopen
  refine ⟨fun hselector => ?noPlace, fun entry hentry => ?place⟩
  case noPlace => exact takeCommand_of_respond hopen (readWindowEffect_of_noPlace (placeOfCode_of_above hselector) s)
  case place =>
    obtain ⟨place, rfl, rfl⟩ := exists_place_of_selector hentry
    refine ⟨fun hempty => takeCommand_of_respond hopen (readWindowEffect_of_empty hempty), fun e he =>
      ⟨windowOctets place e, takeCommand_of_respond hopen (readWindowEffect_of_entry he), windowOctets_length place e, ?_⟩⟩
    obtain ⟨hindex, hcode, hreverse, hstatus, hweight, hestimated⟩ := windowOctets_fields place e
    refine ⟨hindex, hcode, fun p base hbase => ?own, hreverse, hstatus, fun hasc hrange a hlow hhigh => ?map, hweight,
      fun p base hbase => windowOctets_sums place e hbase, hestimated⟩
    case own =>
      obtain ⟨henergy, hmetered, hunmetered, hdemand, hflags⟩ := windowOctets_own place e hbase
      rw [hflags]
      exact ⟨henergy, hmetered, hunmetered, hdemand, OwnFlags.octet_bits _⟩
    case map =>
      rw [octetAt_windowOctets_map place e (by omega)]
      exact contributorMap_bit hasc (fun b hb => (hrange b hb).2) hlow hhigh

end Sys2Proof.Machine

/-! SUPPORT. A peer's Window Report from the judged frame to its disposition: the frame read back (R115, R117), the Peer
Table's and the contributor set's updates (R42, R152), and the disposition by position and place (R52 to R55, R157). -/

namespace Sys2Proof.Machine

/-! ### A frame read back (R115, R117) -/

/-- R115, R117: a frame is its lead octet, the octets the CRC covers, and the CRC. -/
theorem frameOctets_eq (kind : Octet) (payload : List Octet) :
    frameOctets kind payload =
      leadOctet :: ((kind :: BitVec.ofNat 8 payload.length :: payload) ++
        octets 2 (crc16 (kind :: BitVec.ofNat 8 payload.length :: payload)).toNat) := rfl

@[simp] theorem frameOctets_length (kind : Octet) (payload : List Octet) :
    (frameOctets kind payload).length = payload.length + 5 := by
  simp [frameOctets_eq]

@[simp] theorem octetAt_frameOctets_kind (kind : Octet) (payload : List Octet) :
    octetAt (frameOctets kind payload) 1 = kind := rfl

theorem frameComplete_frameOctets {kind : Octet} {payload : List Octet}
    (h : payloadLength kind = some payload.length) : frameComplete (frameOctets kind payload) = true := by
  simp [frameOctets_eq, frameComplete, h]

@[simp] theorem framePayload_frameOctets (kind : Octet) (payload : List Octet) :
    framePayload (frameOctets kind payload) = payload := by
  simp [framePayload, frameOctets_eq]

@[simp] theorem frameGood_frameOctets (kind : Octet) (payload : List Octet) :
    frameGood (frameOctets kind payload) = true := by
  simp [frameGood, frameOctets_eq]

/-! ### Judging a frame (R121, R125) -/

theorem exec_frameReceived (s : State) : exec .frameReceived s = takeEvent State.judgeWaiting s := rfl

/-- R116: the station once a complete frame has left the parser. -/
def State.afterFrame (s : State) : State :=
  { s with receiver := { s.receiver with parser := .afterFrame, frame := [] } }

/-- R121, R125: a complete frame as a station sends it is good and handed on by its kind. -/
theorem State.judgeWaiting_of_frame {s : State} {kind : Octet} {payload : List Octet}
    (hparser : s.receiver.parser = .inFrame) (hlength : payloadLength kind = some payload.length)
    (hframe : s.receiver.frame = frameOctets kind payload) :
    s.judgeWaiting = s.afterFrame.dispatch kind payload := by
  simp [State.judgeWaiting, State.afterFrame, State.frameWaits, State.judge, hparser, hframe,
    frameComplete_frameOctets hlength]

/-- R125: a commissioned station hands a report from a peer to the Peer Table. -/
theorem State.dispatch_of_report {s : State} {payload : List Octet} (hstate : s.station.state ≠ .unconfigured)
    (hlow : 1 ≤ (reportOfPayload payload).sender) (hhigh : (reportOfPayload payload).sender ≤ 64)
    (hown : s.items.stationAddress ≠ some (reportOfPayload payload).sender) :
    s.dispatch 0x31 payload = s.handReport (reportOfPayload payload) := by
  have hsender : ¬((reportOfPayload payload).sender = 0 ∨ 64 < (reportOfPayload payload).sender) := by omega
  have hlineTest : (0x31 : Octet) ≠ lineTestKind := by decide
  have hnotice : (0x31 : Octet) ≠ presenceNoticeKind := by decide
  rw [State.dispatch, if_neg hlineTest, if_neg hstate]
  simp only [State.dispatchFromPeer, if_neg hnotice]
  exact (if_neg hsender).trans (if_neg hown)

/-! ### The Peer Table (R127, R152) -/

theorem findPeer_cons (p : PeerEntry) (ps : List PeerEntry) (a : Nat) :
    findPeer (p :: ps) a = if p.address = a then some p else findPeer ps a := by
  by_cases h : p.address = a <;> simp [findPeer, h]

/-- R152: an entry put in the table is found at its address, and nothing changes at any other. -/
theorem findPeer_putPeer (e : PeerEntry) (peers : List PeerEntry) (a : Nat) :
    findPeer (putPeer e peers) a = if e.address = a then some e else findPeer peers a := by
  induction peers with
  | nil => exact findPeer_cons e [] a
  | cons p ps ih =>
    rw [putPeer]
    split
    · exact findPeer_cons e (p :: ps) a
    · split
      · next hsame =>
        rw [findPeer_cons, findPeer_cons, hsame]
        split <;> rfl
      · next hdiffer =>
        rw [findPeer_cons, findPeer_cons, ih]
        by_cases hp : p.address = a
        · have he : e.address ≠ a := hp ▸ hdiffer
          simp [hp, he]
        · simp [hp]

theorem findPeer_address {peers : List PeerEntry} {a : Nat} {p : PeerEntry} (h : findPeer peers a = some p) :
    p.address = a := by
  simpa using List.find?_some h

/-- R153: the entry of a sender, found or created, stands under the sender's address. -/
@[simp] theorem State.peerOf_address (s : State) (a : Nat) (roleCode : Octet) (weight : Nat) :
    (s.peerOf a roleCode weight).address = a := by
  unfold State.peerOf
  cases h : findPeer s.peers a with
  | none => rfl
  | some p => exact findPeer_address h

@[simp] theorem PeerEntry.afterDisposition_address (p : PeerEntry) (r : WindowReport) (x arrival : Nat)
    (d : Disposition) : (p.afterDisposition r x arrival d).address = p.address := by
  cases d <;> rfl

/-- R155: the digest of a compatible sender. -/
theorem PeerEntry.takeDigest_own (p : PeerEntry) (own : Nat) :
    p.takeDigest own own =
      { p with lastDigest := own, state := if p.state = .incompatible then .present else p.state } := by
  simp [PeerEntry.takeDigest]

/-! ### The contributor set (R42) -/

/-- R42: a contributor set gains the sender and no other address. -/
theorem mem_insertAscending {x a : Nat} {l : List Nat} : a ∈ insertAscending x l ↔ a = x ∨ a ∈ l := by
  induction l with
  | nil => simp [insertAscending]
  | cons y ys ih =>
    rw [insertAscending]
    split
    · simp
    · split
      · next heq => simp [heq]
      · simp [ih, or_left_comm]

theorem length_insertAscending {x : Nat} {l : List Nat} (h : x ∉ l) :
    (insertAscending x l).length = l.length + 1 := by
  induction l with
  | nil => rfl
  | cons y ys ih =>
    obtain ⟨hne, hrest⟩ := not_or.1 (mt List.mem_cons.2 h)
    rw [insertAscending, if_neg hne]
    split
    · rfl
    · simp [ih hrest]

/-! ### The disposition (R53) -/

/-- R53: the position against OPEN at which a report reaches a place. -/
def Place.position : Place → Int
  | .grace => -1
  | .opened => 0
  | .ahead => 1

theorem State.disposition_of_place {s : State} {r : WindowReport} {place : Place} (h : s.position r = place.position) :
    s.disposition r = s.windows.offer place r.sender := by
  cases place <;> simp [State.disposition, h, Place.position]

theorem State.disposition_of_farAhead {s : State} {r : WindowReport} (h : 2 ≤ s.position r) :
    s.disposition r = .farAhead := if_pos h

theorem State.disposition_of_far {s : State} {r : WindowReport} (h : s.position r ≤ -2) : s.disposition r = .late := by
  have hahead : ¬2 ≤ s.position r := by omega
  have h1 : s.position r ≠ 1 := by omega
  have h0 : s.position r ≠ 0 := by omega
  have hgrace : s.position r ≠ -1 := by omega
  simp [State.disposition, hahead, h1, h0, hgrace]

theorem WindowTable.offer_of_empty {w : WindowTable} {place : Place} (h : w.at place = none) (sender : Nat) :
    w.offer place sender = .late := by
  simp [WindowTable.offer, h]

theorem WindowTable.offer_of_new {w : WindowTable} {place : Place} {e : WindowEntry} {sender : Nat}
    (h : w.at place = some e) (hnew : sender ∉ e.contributors) : w.offer place sender = .accepted place := by
  simp [WindowTable.offer, h, hnew]

theorem WindowTable.offer_of_contributor {w : WindowTable} {place : Place} {e : WindowEntry} {sender : Nat}
    (h : w.at place = some e) (hin : sender ∈ e.contributors) : w.offer place sender = .duplicate := by
  simp [WindowTable.offer, h, hin]

/-- R53: a report that reaches an entry is at the position of the entry's place. -/
theorem WindowTable.exists_place_of_target {w : WindowTable} {o e : WindowEntry} {d : Int}
    (hopen : w.openEntry = some o)
    (h : (if d = 1 then w.aheadEntry else if d = 0 then some o else if d = -1 then w.graceEntry else none) = some e) :
    ∃ place : Place, d = place.position ∧ w.at place = some e := by
  split at h
  · next hd => exact ⟨.ahead, hd, h⟩
  · split at h
    · next hd => exact ⟨.opened, hd, hopen.trans h⟩
    · split at h
      · next hd => exact ⟨.grace, hd, h⟩
      · cases h

/-- R54: an accepted report changes the entry of its place and no other. -/
theorem WindowTable.accept_of_entry {w : WindowTable} {place : Place} {e : WindowEntry} (h : w.at place = some e)
    (r : WindowReport) :
    w.accept place r =
      { w with
        aheadEntry := if place.position = 1 then some (e.accept r) else w.aheadEntry
        openEntry := if place.position = 0 then some (e.accept r) else w.openEntry
        graceEntry := if place.position = -1 then some (e.accept r) else w.graceEntry } := by
  cases place <;> simp_all [WindowTable.accept, WindowTable.at, Place.position]

/-- R54: the fields of an entry after an accepted report. -/
theorem WindowEntry.accept_eq (e : WindowEntry) (r : WindowReport) :
    e.accept r =
      { e with
        contributors := insertAscending r.sender e.contributors
        weightSum := e.weightSum + if r.roleCode = 0x01 then r.weight else 0
        sums :=
          ⟨⟨e.sums.heat.demand + r.demand.heat, e.sums.heat.energy + r.energy.heat,
              e.sums.heat.common + if r.roleCode = 0x02 then r.energy.heat else 0⟩,
           ⟨e.sums.cool.demand + r.demand.cool, e.sums.cool.energy + r.energy.cool,
              e.sums.cool.common + if r.roleCode = 0x02 then r.energy.cool else 0⟩⟩
        estimatedContributors :=
          e.estimatedContributors +
            if r.quality.heat.estimated || r.quality.heat.faulted || r.quality.cool.estimated ||
              r.quality.cool.faulted then 1 else 0 } := by
  simp only [WindowEntry.accept, PeerSums.add, beq_iff_eq]
  rfl

/-! ### The station after a report (R127, R157) -/

/-- R155: the entry of a report's sender, found or created, with the station's own digest stored. -/
def State.compatiblePeer (r : WindowReport) (s : State) : PeerEntry :=
  (s.peerOf r.sender r.roleCode r.weight).takeDigest s.station.digest s.station.digest

/-- The station after it has judged a compatible sender's report and given it a disposition. -/
def State.afterReport (r : WindowReport) (d : Disposition) (s : State) : State :=
  { s.afterFrame with
    windows := s.windows.afterDisposition r d
    peers :=
      putPeer ((s.compatiblePeer r).afterDisposition r (s.reportedIndex r) s.receiver.arrivalSecond d) s.peers
    contexts := s.contexts.countDisposition d }

/-- R127: a report with the station's digest reaches the Window Table, the Peer Table and CURRENT. -/
theorem State.handReport_of_digest {s : State} {r : WindowReport} (h : r.digest = s.station.digest) :
    s.handReport r =
      { s with
        windows := s.windows.afterDisposition r (s.disposition r)
        peers :=
          putPeer ((s.compatiblePeer r).afterDisposition r (s.reportedIndex r) s.receiver.arrivalSecond
            (s.disposition r)) s.peers
        contexts := s.contexts.countDisposition (s.disposition r) } := by
  simp only [State.handReport, State.compatiblePeer, h, if_true]

/-- R125, R127: the report of a compatible peer gets its disposition. -/
theorem exec_frameReceived_of_report {s : State} {payload : List Octet} (hrstn : s.rstnHigh = true)
    (hstate : s.station.state ≠ .unconfigured) (hparser : s.receiver.parser = .inFrame) (hlength : payload.length = 32)
    (hframe : s.receiver.frame = frameOctets 0x31 payload) (hlow : 1 ≤ (reportOfPayload payload).sender)
    (hhigh : (reportOfPayload payload).sender ≤ 64)
    (hown : s.items.stationAddress ≠ some (reportOfPayload payload).sender)
    (hdigest : (reportOfPayload payload).digest = s.station.digest) :
    exec .frameReceived s =
      .next (s.afterReport (reportOfPayload payload) (s.disposition (reportOfPayload payload))) := by
  have hkind : payloadLength 0x31 = some payload.length := by rw [hlength]; rfl
  have hdispatch := State.dispatch_of_report (s := s.afterFrame) hstate hlow hhigh hown
  rw [exec_frameReceived, takeEvent_of_high hrstn, State.judgeWaiting_of_frame hparser hkind hframe, hdispatch,
    State.handReport_of_digest (s := s.afterFrame) hdigest]
  rfl

/-- R127: the sender's entry after a disposition. -/
theorem State.findPeer_afterReport_sender (s : State) (r : WindowReport) (d : Disposition) :
    findPeer (s.afterReport r d).peers r.sender =
      some ((s.compatiblePeer r).afterDisposition r (s.reportedIndex r) s.receiver.arrivalSecond d) := by
  have haddress : (s.compatiblePeer r).address = r.sender := s.peerOf_address _ _ _
  rw [State.afterReport, findPeer_putPeer, PeerEntry.afterDisposition_address, if_pos haddress]

/-- R127: a report leaves every other station's entry as it was. -/
theorem State.findPeer_afterReport_other (s : State) (r : WindowReport) (d : Disposition) {a : Nat}
    (h : a ≠ r.sender) : findPeer (s.afterReport r d).peers a = findPeer s.peers a := by
  have haddress : (s.compatiblePeer r).address = r.sender := s.peerOf_address _ _ _
  rw [State.afterReport, findPeer_putPeer, PeerEntry.afterDisposition_address, haddress, if_neg h.symm]

/-- R55: a disposition counted in CURRENT. -/
theorem Contexts.countDisposition_of_current {k : Contexts} {c : PeriodContext} (h : k.current = some c)
    (d : Disposition) :
    k.countDisposition d =
      { k with
        current :=
          some { c with figures := { c.figures with dispositions := c.figures.dispositions.count d } } } := by
  simp [Contexts.countDisposition, h]

/-- R54: an accepted report counts nowhere in CURRENT. -/
theorem Contexts.countDisposition_accepted (k : Contexts) (place : Place) :
    k.countDisposition (.accepted place) = k := by
  obtain ⟨current, closing⟩ := k
  cases current <;> rfl

/-! ### The settled statement -/

/-- Settles O39: the position gives the place a report reaches, and the place's entry its disposition. -/
theorem windowReportDisposition : Obligations.WindowReportDisposition := by
  intro s payload o c hrstn hstate hparser hlength hframe hopen hcurrent r hlow hhigh hown hdigest windows x d target
    before compatible received dropped counts
  have hexec := exec_frameReceived_of_report hrstn hstate hparser hlength hframe hlow hhigh hown hdigest
  have hposition : s.position r = d := by rw [State.position, hopen]; rfl
  have hcompatible : s.compatiblePeer r = compatible := PeerEntry.takeDigest_own _ _
  have hpeer := s.findPeer_afterReport_sender r (s.disposition r)
  rw [hcompatible] at hpeer
  have hdropped : ∀ p, s.disposition r = p → s.windows.afterDisposition r p = s.windows →
      dropped (s.afterReport r (s.disposition r))
        (compatible.afterDisposition r (s.reportedIndex r) s.receiver.arrivalSecond p) (counts.count p) := by
    rintro p rfl hwindows
    exact ⟨hwindows, hpeer, Contexts.countDisposition_of_current hcurrent _⟩
  refine ⟨s.afterReport r (s.disposition r), ⟨hexec, rfl, fun a ha => s.findPeer_afterReport_other r _ ha⟩,
    fun e he hnew => ?accepted, fun e he hin => ?duplicate, fun hd => ?farAhead, fun hd => ?late⟩
  case accepted =>
    obtain ⟨place, hplace, hentry⟩ := WindowTable.exists_place_of_target hopen he
    have hdisposition : s.disposition r = .accepted place :=
      (State.disposition_of_place (hposition.trans hplace)).trans (WindowTable.offer_of_new hentry hnew)
    rw [hdisposition] at hpeer ⊢
    refine ⟨e.accept r, ?_, fun a => mem_insertAscending, length_insertAscending hnew, e.accept_eq r,
      s.contexts.countDisposition_accepted place, hpeer⟩
    rw [hplace]
    exact WindowTable.accept_of_entry hentry r
  case duplicate =>
    obtain ⟨place, hplace, hentry⟩ := WindowTable.exists_place_of_target hopen he
    have hdisposition : s.disposition r = .duplicate :=
      (State.disposition_of_place (hposition.trans hplace)).trans (WindowTable.offer_of_contributor hentry hin)
    exact hdropped _ hdisposition rfl
  case farAhead => exact hdropped _ (State.disposition_of_farAhead (hposition ▸ hd)) rfl
  case late =>
    refine hdropped .late ?_ rfl
    rcases hd with hd | ⟨hd, hempty⟩
    · exact State.disposition_of_far (hposition ▸ hd)
    · have hplace : s.position r = Place.grace.position := hposition.trans hd
      exact (State.disposition_of_place hplace).trans (WindowTable.offer_of_empty (place := .grace) hempty _)

end Sys2Proof.Machine


/-! SUPPORT. The close of a window into a Period Context (R70 to R79): sums that saturate at their own width, one band's
field among four, the peak of a plant, and when a close leaves a 48-bit field at its limit (R76, R89). -/

namespace Sys2Proof.Machine

/-! ### Saturating sums -/

/-- A saturating sum stands at its limit exactly where the sum reaches it. -/
theorem maxOf_le_satAdd {bits a b : Nat} : maxOf bits ≤ satAdd bits a b ↔ maxOf bits ≤ a + b := by
  simp [satAdd]

/-- R77, R78: a 16-bit count rises where its condition holds, and only there. -/
theorem bumpIf_spec {b : Bool} {condition : Prop} (h : b = true ↔ condition) (n : Nat) :
    (condition → bumpIf b n = min 65535 (n + 1)) ∧ (¬condition → bumpIf b n = n) :=
  ⟨fun hc => if_pos (h.2 hc), fun hc => if_neg (mt h.1 hc)⟩

theorem eitherPlant_iff (own : PerPlant OwnPart) (flag : OwnFlags → Bool) :
    eitherPlant own flag = true ↔ flag own.heat.flags = true ∨ flag own.cool.flags = true :=
  (Bool.or_eq_true _ _).to_iff

/-! ### One band's field (R38, R75) -/

theorem bandOf_lt (c : Calendar) (l : WindowLength) (x : Nat) : bandOf c l x < 4 := by
  have hband (m : SlotMap) (slot : Nat) : m.band slot < 4 := Nat.mod_lt _ (by decide)
  unfold bandOf
  split <;> exact hband _ _

/-- R75: an addition reaches its own band's field and no other. -/
theorem addBand_get {b k : Nat} (hb : b < 4) (hk : k < 4) (add : Nat) (x : PerBand Nat) :
    (addBand b add x).get k = if k = b then satAdd 48 (x.get k) add else x.get k := by
  interval_cases b <;> interval_cases k <;> rfl

/-- R75: a band's field that stands at the limit stands there after an addition. -/
theorem maxOf_le_addBand {b k : Nat} (hb : b < 4) (hk : k < 4) (add : Nat) {x : PerBand Nat}
    (h : maxOf 48 ≤ x.get k) : maxOf 48 ≤ (addBand b add x).get k := by
  rw [addBand_get hb hk]
  split
  · exact maxOf_le_satAdd.2 (Nat.le_add_right_of_le h)
  · exact h

/-- R76: the band's field stands at the limit where its sum exceeds it. -/
theorem maxOf_le_addBand_self {b : Nat} (hb : b < 4) {add : Nat} {x : PerBand Nat} (h : maxOf 48 < x.get b + add) :
    maxOf 48 ≤ (addBand b add x).get b := by
  rw [addBand_get hb hb, if_pos rfl]
  exact maxOf_le_satAdd.2 h.le

/-! ### The peak of a plant (R70 to R72) -/

/-- R72: a strictly greater complex demand replaces the peak record; it is not 0, so the parts per million are
a quotient. -/
theorem updatePeak_of_lt {w : WindowEntry} {own : OwnPart} {sums : PeerSums} {old : Option Peak}
    (h : peakDemand old < own.demand + sums.demand) :
    updatePeak w own sums old =
      some { index := w.index, complexDemand := own.demand + sums.demand, ownDemand := own.demand
             contributors := w.contributors.length
             sharePpm := own.demand * 1000000 / (own.demand + sums.demand) } := by
  have hpos : own.demand + sums.demand ≠ 0 := by omega
  rw [updatePeak, complexDemand, if_pos h, sharePpm, if_neg hpos]

theorem updatePeak_of_le {w : WindowEntry} {own : OwnPart} {sums : PeerSums} {old : Option Peak}
    (h : own.demand + sums.demand ≤ peakDemand old) : updatePeak w own sums old = old :=
  if_neg (Nat.not_lt.2 h)

/-! ### One plant's figures after a close -/

theorem commonShare_eq (i : Items) (w : WindowEntry) (sums : PeerSums) :
    commonShare i w sums =
      if i.role = some .tenant ∧ i.weight + w.weightSum ≠ 0 then sums.common * i.weight / (i.weight + w.weightSum)
      else 0 := by
  simp only [commonShare, weightTotal, Nat.pos_iff_ne_zero]

section
variable (f : Figures) (i : Items) (b : Nat) (w : WindowEntry) (quietPeers : Nat) (p : Plant)

theorem Figures.close_peak :
    (f.close i b w quietPeers).peak.get p = updatePeak w (w.own.get p) (w.sums.get p) (f.peak.get p) := by
  cases p <;> rfl

theorem Figures.close_energy :
    (f.close i b w quietPeers).energy.get p = addBand b (w.own.get p).energy (f.energy.get p) := by
  cases p <;> rfl

theorem Figures.close_commonShare :
    (f.close i b w quietPeers).commonShare.get p =
      addBand b (Machine.commonShare i w (w.sums.get p)) (f.commonShare.get p) := by
  cases p <;> rfl

theorem Figures.close_complexEnergy :
    (f.close i b w quietPeers).complexEnergy.get p =
      satAdd 48 (f.complexEnergy.get p) ((w.own.get p).energy + (w.sums.get p).energy) := by
  cases p <;> rfl

end

/-! ### Fields at their limit (R76, R89) -/

/-- R89: one of a plant's 48-bit fields stands at its limit. -/
def Figures.AtLimit (g : Figures) (p : Plant) : Prop :=
  maxOf 48 ≤ g.complexEnergy.get p ∨
    ∃ k, k < 4 ∧ (maxOf 48 ≤ (g.energy.get p).get k ∨ maxOf 48 ≤ (g.commonShare.get p).get k)

theorem Plant.exists_iff {P : Plant → Prop} : (∃ p, P p) ↔ P .heat ∨ P .cool :=
  ⟨fun ⟨p, h⟩ => by cases p; exacts [.inl h, .inr h], fun h => h.elim (⟨_, ·⟩) (⟨_, ·⟩)⟩

theorem PerBand.exists_mem_toList_iff {x : PerBand Nat} {n : Nat} :
    (∃ v ∈ x.toList, n ≤ v) ↔ ∃ k, k < 4 ∧ n ≤ x.get k := by
  constructor
  · intro h
    simp only [PerBand.toList, List.mem_cons, List.not_mem_nil, or_false, exists_eq_or_imp, exists_eq_left] at h
    rcases h with h | h | h | h
    exacts [⟨0, by decide, h⟩, ⟨1, by decide, h⟩, ⟨2, by decide, h⟩, ⟨3, by decide, h⟩]
  · rintro ⟨k, hk, h⟩
    refine ⟨x.get k, ?_, h⟩
    interval_cases k <;> simp [PerBand.toList, PerBand.get]

/-- R76, R89: a close sets SATURATED exactly where it leaves the unmetered volume or a plant's field at its limit. -/
theorem foldSaturates_iff_atLimit (g : Figures) :
    foldSaturates g = true ↔ maxOf 48 ≤ g.unmetered ∨ ∃ p, g.AtLimit p := by
  have hbands (x y : PerBand Nat) :
      (∃ k, k < 4 ∧ (maxOf 48 ≤ x.get k ∨ maxOf 48 ≤ y.get k)) ↔
        (∃ v ∈ x.toList, maxOf 48 ≤ v) ∨ ∃ v ∈ y.toList, maxOf 48 ≤ v := by
    simp only [PerBand.exists_mem_toList_iff, and_or_left, exists_or]
  rw [foldSaturates_iff, Plant.exists_iff]
  simp only [Figures.AtLimit, hbands, Figures.fields48, List.mem_append, or_and_right, exists_or, List.mem_cons,
    List.not_mem_nil, or_false, exists_eq_left, PerPlant.get]
  exact Iff.of_eq (by ac_rfl)

section
variable {f : Figures} {i : Items} {b : Nat} {w : WindowEntry} {quietPeers : Nat} {p : Plant}

/-- R76: a plant's field that stood at its limit stands there after the close. -/
theorem Figures.AtLimit.close (hb : b < 4) (h : f.AtLimit p) : (f.close i b w quietPeers).AtLimit p := by
  rw [Figures.AtLimit, Figures.close_complexEnergy, Figures.close_energy, Figures.close_commonShare]
  rcases h with hcomplex | ⟨k, hk, henergy | hshare⟩
  · exact .inl (maxOf_le_satAdd.2 (Nat.le_add_right_of_le hcomplex))
  · exact .inr ⟨k, hk, .inl (maxOf_le_addBand hb hk _ henergy)⟩
  · exact .inr ⟨k, hk, .inr (maxOf_le_addBand hb hk _ hshare)⟩

/-- R76: a plant's field stands at its limit where the close's sum exceeds it. -/
theorem Figures.atLimit_close_of_exceeds (hb : b < 4)
    (h : maxOf 48 < (f.energy.get p).get b + (w.own.get p).energy ∨
      maxOf 48 < (f.commonShare.get p).get b + Machine.commonShare i w (w.sums.get p) ∨
      maxOf 48 < f.complexEnergy.get p + (w.own.get p).energy + (w.sums.get p).energy) :
    (f.close i b w quietPeers).AtLimit p := by
  rw [Figures.AtLimit, Figures.close_complexEnergy, Figures.close_energy, Figures.close_commonShare]
  rcases h with henergy | hshare | hcomplex
  · exact .inr ⟨b, hb, .inl (maxOf_le_addBand_self hb henergy)⟩
  · exact .inr ⟨b, hb, .inr (maxOf_le_addBand_self hb hshare)⟩
  · exact .inl (maxOf_le_satAdd.2 (Nat.add_assoc _ _ _ ▸ hcomplex.le))

end

/-! ### SATURATED after a close -/

theorem PeriodContext.close_saturated (c : PeriodContext) (i : Items) (cal : Calendar) (w : WindowEntry)
    (quietPeers : Nat) :
    (c.close i cal w quietPeers).saturated =
      (c.saturated || foldSaturates (c.close i cal w quietPeers).figures) := rfl

theorem PeriodContext.close_saturated_of_atLimit {c : PeriodContext} {i : Items} {cal : Calendar} {w : WindowEntry}
    {quietPeers : Nat}
    (h : maxOf 48 ≤ (c.close i cal w quietPeers).figures.unmetered ∨
      ∃ p, (c.close i cal w quietPeers).figures.AtLimit p) :
    (c.close i cal w quietPeers).saturated = true := by
  rw [PeriodContext.close_saturated, (foldSaturates_iff_atLimit _).2 h, Bool.or_true]

theorem PeriodContext.close_saturated_of_notAtLimit {c : PeriodContext} {i : Items} {cal : Calendar} {w : WindowEntry}
    {quietPeers : Nat} (hunmetered : (c.close i cal w quietPeers).figures.unmetered < maxOf 48)
    (hplants : ∀ p, ¬(c.close i cal w quietPeers).figures.AtLimit p) :
    (c.close i cal w quietPeers).saturated = c.saturated := by
  have hnone : ¬foldSaturates (c.close i cal w quietPeers).figures = true := by
    rw [foldSaturates_iff_atLimit]
    rintro (h | ⟨p, h⟩)
    exacts [hunmetered.not_ge h, hplants p h]
  rw [PeriodContext.close_saturated, Bool.eq_false_iff.2 hnone, Bool.or_false]

/-! ### The settled statement -/

/-- Settles O29: each field by its own rule, and SATURATED by the fields that stand at their limit after the close. -/
theorem closeFoldsIntoContext : Obligations.CloseFoldsIntoContext := by
  intro c i calendar w quietPeers b top complex total share either rises f c' f'
  have hb : b < 4 := bandOf_lt calendar i.length w.index
  have hshare (p : Plant) : Machine.commonShare i w (w.sums.get p) = share p := commonShare_eq i w _
  have hunmetered : f'.unmetered = satAdd 48 f.unmetered (w.own.heat.unmetered + w.own.cool.unmetered) := rfl
  refine ⟨⟨rfl, rfl, rfl, rfl, rfl⟩,
    fun p => ⟨fun hgreater => ?greater, fun hkept => ?kept, fun k hk => ⟨?energy, ?common⟩, ?complexEnergy⟩,
    ?unmetered, rfl, rfl,
    bumpIf_spec decide_eq_true_iff _, bumpIf_spec (eitherPlant_iff w.own _) _, bumpIf_spec (eitherPlant_iff w.own _) _,
    bumpIf_spec (eitherPlant_iff w.own _) _, bumpIf_spec (eitherPlant_iff w.own _) _, bumpIf_spec decide_eq_true_iff _,
    rfl, rfl, fun hbefore => ?stays, fun hexceeds => ?exceeds, fun hlimited => ?limited, fun hroom hfree => ?asBefore⟩
  case greater => exact (Figures.close_peak f i b w quietPeers p).trans (updatePeak_of_lt hgreater)
  case kept => exact (Figures.close_peak f i b w quietPeers p).trans (updatePeak_of_le hkept)
  case energy =>
    have henergy : f'.energy.get p = _ := Figures.close_energy f i b w quietPeers p
    rw [henergy, addBand_get hb hk]
    rfl
  case common =>
    have hcommon : f'.commonShare.get p = _ := Figures.close_commonShare f i b w quietPeers p
    rw [hcommon, addBand_get hb hk, hshare]
    rfl
  case complexEnergy =>
    have hcomplex : f'.complexEnergy.get p = _ := Figures.close_complexEnergy f i b w quietPeers p
    rw [hcomplex, Nat.add_assoc]
    rfl
  case unmetered =>
    rw [hunmetered, Nat.add_assoc]
    rfl
  case stays =>
    exact (PeriodContext.close_saturated c i calendar w quietPeers).trans (by rw [hbefore, Bool.true_or])
  case exceeds =>
    refine PeriodContext.close_saturated_of_atLimit (hexceeds.imp (fun h => ?_) fun ⟨p, h⟩ => ⟨p, ?_⟩)
    · exact maxOf_le_satAdd.2 (Nat.add_assoc _ _ _ ▸ h.le)
    · exact Figures.atLimit_close_of_exceeds hb ((hshare p).symm ▸ h)
  case limited =>
    refine PeriodContext.close_saturated_of_atLimit (hlimited.imp (fun h => ?_) fun ⟨p, h⟩ => ⟨p, ?_⟩)
    · exact maxOf_le_satAdd.2 (Nat.le_add_right_of_le h)
    · exact Figures.AtLimit.close hb h
  case asBefore => exact PeriodContext.close_saturated_of_notAtLimit hroom hfree

end Sys2Proof.Machine


/-! SUPPORT. Settlement Records and the Record Queue: a record's costs (R96, R97), the record a merge leaves (R102, R103),
what a record that enters the queue raises (R100), and SNAPSHOT, RELEASE RECORD and CLEAR QUEUE (R98, R104, R105). -/

namespace Sys2Proof.Machine

/-! ### Building a record (R95 to R97) -/

theorem PerPlant.zip_get {α β γ : Type} (f : α → β → γ) (x : PerPlant α) (y : PerPlant β) (p : Plant) :
    (PerPlant.zip f x y).get p = f (x.get p) (y.get p) := by
  cases p <;> rfl

/-- R96: one band's joules at its rate, in units of 3600000, rounded half up. -/
def bandCost (joules rate : Nat) : Nat := (joules * rate + 1800000) / 3600000

theorem roundHalfUp_eq_bandCost (joules rate : Nat) : roundHalfUp (joules * rate) 3600000 = bandCost joules rate := by
  have hhalf : 3600000 / 2 = 1800000 := rfl
  rw [roundHalfUp, hhalf, bandCost]

theorem PerBand.sum_toList (x : PerBand Nat) : x.toList.sum = x.band0 + x.band1 + x.band2 + x.band3 := by
  simp [PerBand.toList, Nat.add_assoc]

theorem costSum_eq (x rate : PerBand Nat) :
    costSum x rate =
      bandCost x.band0 rate.band0 + bandCost x.band1 rate.band1 + bandCost x.band2 rate.band2 +
        bandCost x.band3 rate.band3 := by
  rw [costSum, PerBand.sum_toList]
  simp only [PerBand.zip, roundHalfUp_eq_bandCost]

theorem costsOver_iff (i : Items) (f : Figures) :
    costsOver i f = true ↔
      ∃ p, maxOf 48 < costSum (f.energy.get p) (i.rate.get p) ∨
        maxOf 48 < costSum (f.commonShare.get p) (i.rate.get p) := by
  simp only [costsOver, Bool.or_eq_true, decide_eq_true_eq, Plant.exists_iff, PerPlant.get]
  exact Iff.of_eq (by ac_rfl)

section
variable (kind : RecordKind) (i : Items) (c : PeriodContext) (rx : RxErrors)

theorem buildRecord_energyCost (p : Plant) :
    (buildRecord kind i c rx).energyCost.get p = min (maxOf 48) (costSum (c.figures.energy.get p) (i.rate.get p)) :=
  PerPlant.zip_get costOf _ _ p

theorem buildRecord_commonCost (p : Plant) :
    (buildRecord kind i c rx).commonCost.get p =
      min (maxOf 48) (costSum (c.figures.commonShare.get p) (i.rate.get p)) :=
  PerPlant.zip_get costOf _ _ p

theorem buildRecord_saturated_iff :
    (buildRecord kind i c rx).saturated = true ↔
      c.saturated = true ∨ ∃ p, maxOf 48 < costSum (c.figures.energy.get p) (i.rate.get p) ∨
        maxOf 48 < costSum (c.figures.commonShare.get p) (i.rate.get p) := by
  rw [← costsOver_iff]
  exact (Bool.or_eq_true _ _).to_iff

end

/-! ### The record a merge leaves (R102, R103) -/

/-- R195: the 16-bit fields of a record that a merge adds; the merged count, which rises by 1, is not among them. -/
def Record.summed16 : List (Record → Nat) :=
  [fun x => x.figures.counts.closed, fun x => x.figures.counts.complete, fun x => x.figures.counts.estimated,
   fun x => x.figures.counts.faulted, fun x => x.figures.counts.backup, fun x => x.figures.counts.partialWindows,
   fun x => x.figures.counts.unapportioned, fun x => x.figures.counts.contributorsHeard,
   fun x => x.figures.counts.estimatedContributors, fun x => x.figures.dispositions.late,
   fun x => x.figures.dispositions.duplicate, fun x => x.figures.dispositions.farAhead,
   fun x => x.figures.addressClashes, fun x => x.rxErrors.framing, fun x => x.rxErrors.stray,
   fun x => x.rxErrors.length, fun x => x.rxErrors.crc]

/-- R195: the 48-bit fields of a record. -/
def Record.summed48 : List (Record → Nat) :=
  [fun x => x.figures.unmetered, fun x => x.figures.complexEnergy.heat, fun x => x.figures.complexEnergy.cool,
   fun x => x.energyCost.heat, fun x => x.energyCost.cool, fun x => x.commonCost.heat, fun x => x.commonCost.cool,
   fun x => x.figures.energy.heat.band0, fun x => x.figures.energy.heat.band1,
   fun x => x.figures.energy.heat.band2, fun x => x.figures.energy.heat.band3,
   fun x => x.figures.energy.cool.band0, fun x => x.figures.energy.cool.band1,
   fun x => x.figures.energy.cool.band2, fun x => x.figures.energy.cool.band3,
   fun x => x.figures.commonShare.heat.band0, fun x => x.figures.commonShare.heat.band1,
   fun x => x.figures.commonShare.heat.band2, fun x => x.figures.commonShare.heat.band3,
   fun x => x.figures.commonShare.cool.band0, fun x => x.figures.commonShare.cool.band1,
   fun x => x.figures.commonShare.cool.band2, fun x => x.figures.commonShare.cool.band3]

section
variable (a b : Record)

theorem mergeRecords_summed16 :
    ∀ field ∈ Record.summed16, field (mergeRecords a b) = satAdd 16 (field a) (field b) := by
  simp [Record.summed16, mergeRecords, mergeFigures, mergeRxErrors]

theorem mergeRecords_summed48 :
    ∀ field ∈ Record.summed48, field (mergeRecords a b) = satAdd 48 (field a) (field b) := by
  simp [Record.summed48, mergeRecords, mergeFigures, PerPlant.zip, PerBand.zip]

/-- R103: a merge holds an amount back exactly where the merged count, the reverse count or one of the added fields
would exceed its width. -/
theorem mergeSaturates_iff :
    mergeSaturates a b = true ↔
      maxOf 16 < a.mergedCount + 1 ∨ (∃ field ∈ Record.summed16, maxOf 16 < field a + field b) ∨
        maxOf 32 < a.figures.reverseCount + b.figures.reverseCount ∨
        ∃ field ∈ Record.summed48, maxOf 48 < field a + field b := by
  simp only [mergeSaturates, figureTerms, sumOver, Record.summed16, Record.summed48, PerBand.toList, List.any_cons,
    List.any_nil, List.map_cons, List.map_nil, List.zip_cons_cons, List.zip_nil_left,
    Bool.or_eq_true, decide_eq_true_eq, Bool.false_eq_true, List.mem_cons, List.not_mem_nil, exists_eq_or_imp,
    exists_eq_left, or_false, List.cons_append, List.nil_append]
  exact Iff.of_eq (by ac_rfl)

theorem mergeRecords_saturated_iff :
    (mergeRecords a b).saturated = true ↔ a.saturated = true ∨ b.saturated = true ∨ mergeSaturates a b = true := by
  simp [mergeRecords, or_assoc]

theorem mergeRecords_peak (p : Plant) :
    (mergeRecords a b).figures.peak.get p = mergePeak (a.figures.peak.get p) (b.figures.peak.get p) :=
  PerPlant.zip_get mergePeak _ _ p

end

theorem mergePeak_none_left (newer : Option Peak) : mergePeak none newer = newer := by cases newer <;> rfl

theorem mergePeak_none_right (older : Option Peak) : mergePeak older none = older := by cases older <;> rfl

theorem mergePeak_some (older newer : Peak) :
    mergePeak (some older) (some newer) =
      if older.complexDemand < newer.complexDemand then some newer else some older := rfl

/-! ### The causes a record that enters the queue raises (R100, R189) -/

theorem Cause.mask_and_mask (c d : Cause) : (c.mask &&& d.mask != 0#10) = decide (c = d) := by
  cases c <;> cases d <;> rfl

/-- R189: raising a cause sets its own pending flag and no other. -/
theorem CauseUnit.flagOf_raise (c d : Cause) (u : CauseUnit) :
    flagOf (u.raise c).pending d = (flagOf u.pending d || decide (c = d)) := by
  rw [← Cause.mask_and_mask, Bool.eq_iff_iff]
  simp [flagOf, CauseUnit.raise, BitVec.and_or_distrib_right, BitVec.or_eq_zero_iff, imp_iff_not_or]

/-- R100: the Cause Unit once a record has entered the queue; `alert` says that the level rose to the threshold. -/
def CauseUnit.recordEntered (alert : Bool) (u : CauseUnit) : CauseUnit :=
  if alert then (u.raise .recordReady).raise .queueAlert else u.raise .recordReady

theorem State.enqueue_eq (r : Record) (s : State) :
    s.enqueue r =
      { s with
        records := { s.records with queue := s.records.queue ++ [r] }
        causes := s.causes.recordEntered (s.records.queue.length + 1 == s.alertThreshold) } := by
  unfold State.enqueue State.raiseIf CauseUnit.recordEntered
  split <;> rfl

theorem CauseUnit.flagOf_recordEntered (alert : Bool) (c : Cause) (u : CauseUnit) :
    flagOf (u.recordEntered alert).pending c =
      (flagOf u.pending c || decide (c = .recordReady) || (alert && decide (c = .queueAlert))) := by
  cases alert <;> simp [CauseUnit.recordEntered, CauseUnit.flagOf_raise, eq_comm]

theorem CauseUnit.recordEntered_controls (alert : Bool) (u : CauseUnit) :
    (u.recordEntered alert).enables = u.enables ∧ (u.recordEntered alert).master = u.master ∧
    (u.recordEntered alert).mode = u.mode := by
  cases alert <;> exact ⟨rfl, rfl, rfl⟩

section
variable (u : CauseUnit)

theorem CauseUnit.recordReady_of_recordEntered (alert : Bool) :
    flagOf (u.recordEntered alert).pending .recordReady = true := by
  simp [CauseUnit.flagOf_recordEntered]

theorem CauseUnit.queueAlert_of_recordEntered {m n : Nat} :
    flagOf (u.recordEntered (m == n)).pending .queueAlert = true ↔ flagOf u.pending .queueAlert = true ∨ m = n := by
  simp [CauseUnit.flagOf_recordEntered]

theorem CauseUnit.other_of_recordEntered (alert : Bool) {c : Cause} (hready : c ≠ .recordReady)
    (halert : c ≠ .queueAlert) : flagOf (u.recordEntered alert).pending c = flagOf u.pending c := by
  simp [CauseUnit.flagOf_recordEntered, hready, halert]

end

/-! ### The commands of the queue (R98, R104, R105) -/

theorem exec_snapshot (s : State) : exec .snapshot s = takeCommand (commissionedOnly 0 snapshotEffect) s := rfl

theorem exec_releaseRecord (s : State) : exec .releaseRecord s = takeCommand releaseEffect s := rfl

theorem exec_clearQueue (s : State) : exec .clearQueue s = takeCommand clearQueueEffect s := rfl

section
variable {s : State}

theorem snapshotEffect_of_full (h : 8 ≤ s.records.queue.length) : snapshotEffect s = statusOnly .queueFull 0 s :=
  if_pos h

theorem snapshotEffect_of_room {c : PeriodContext} (h : s.records.queue.length < 8)
    (hcurrent : s.contexts.current = some c) :
    snapshotEffect s = (s.enqueue (buildRecord .interim s.items c s.receiver.errors), respond .ok []) := by
  have hroom : ¬queuePlaces ≤ s.records.queue.length := Nat.not_le.2 h
  simp only [snapshotEffect, if_neg hroom, hcurrent]

theorem releaseEffect_of_empty (h : s.records.queue = []) : releaseEffect s = statusOnly .empty 0 s := by
  simp only [releaseEffect, h]

theorem releaseEffect_of_head {x : Record} {rest : List Record} (h : s.records.queue = x :: rest)
    (hslot : s.records.overflow = none) :
    releaseEffect s = ({ s with records := { s.records with queue := rest } }, respond .ok []) := by
  simp only [releaseEffect, h, hslot]

theorem releaseEffect_of_overflow {x o : Record} {rest : List Record} (h : s.records.queue = x :: rest)
    (hslot : s.records.overflow = some o) :
    releaseEffect s =
      ({ s with records := { s.records with queue := rest, overflow := none } }.enqueue o, respond .ok []) := by
  simp only [releaseEffect, h, hslot]

end

/-! ### The settled statements -/

/-- Settles O31: the costs by plant and band, and the merge by the width of each added field. -/
theorem recordsAreBuiltAndMerged : Obligations.RecordsAreBuiltAndMerged := by
  refine ⟨fun kind i c rx => ?built, fun a b => ?merged⟩
  case built =>
    intro r term cost
    have hcost (x rate : PerBand Nat) : costSum x rate = cost x rate := costSum_eq x rate
    refine ⟨rfl, rfl, rfl, rfl, rfl, rfl, rfl, rfl, rfl, fun p => ⟨?_, ?_⟩, ?_⟩
    · rw [← hcost]; exact buildRecord_energyCost kind i c rx p
    · rw [← hcost]; exact buildRecord_commonCost kind i c rx p
    · simp only [← hcost]; exact buildRecord_saturated_iff kind i c rx
  case merged =>
    intro r sums beyond fields16 fields48
    have hpeak (p : Plant) : r.figures.peak.get p = mergePeak (a.figures.peak.get p) (b.figures.peak.get p) :=
      mergeRecords_peak a b p
    refine ⟨rfl, rfl, rfl, rfl, rfl, rfl, rfl, mergeRecords_summed16 a b, rfl, mergeRecords_summed48 a b,
      fun p => ⟨fun hnone => ?_, fun hnone => ?_, fun x y hx hy => ?_⟩, ?saturated⟩
    · rw [hpeak, hnone, mergePeak_none_left]
    · rw [hpeak, hnone, mergePeak_none_right]
    · rw [hpeak, hx, hy, mergePeak_some]
    case saturated =>
      exact (mergeRecords_saturated_iff a b).trans (or_congr_right (or_congr_right (mergeSaturates_iff a b)))

/-- Settles O33: SNAPSHOT and RELEASE RECORD by the level and the slot; a record that enters raises its causes. -/
theorem snapshotReleaseAndClear : Obligations.SnapshotReleaseAndClear := by
  refine ⟨fun s hopen hstate => ?unconfigured, fun s c hopen hcurrent => ⟨fun hstate hfull => ?full,
    fun hstate hroom => ?room⟩, fun s hopen => ⟨fun hempty => ?empty, fun x rest hqueue hslot => ?head,
    fun x rest o hqueue hslot => ?overflow, ?clear⟩⟩
  case unconfigured => exact takeCommand_of_statusOnly hopen (commissionedOnly_of_unconfigured hstate)
  case full =>
    exact takeCommand_of_statusOnly hopen
      ((commissionedOnly_of_commissioned hstate).trans (snapshotEffect_of_full hfull))
  case room =>
    refine ⟨s.causes.recordEntered (s.records.queue.length + 1 == s.alertThreshold), ?_,
      s.causes.recordReady_of_recordEntered _, s.causes.queueAlert_of_recordEntered,
      fun x => s.causes.other_of_recordEntered _, s.causes.recordEntered_controls _⟩
    rw [exec_snapshot, ← State.enqueue_eq]
    exact takeCommand_of_respond hopen
      ((commissionedOnly_of_commissioned hstate).trans (snapshotEffect_of_room hroom hcurrent))
  case empty => exact takeCommand_of_statusOnly hopen (releaseEffect_of_empty hempty)
  case head => exact takeCommand_of_respond hopen (releaseEffect_of_head hqueue hslot)
  case overflow =>
    refine ⟨s.causes.recordEntered (rest.length + 1 == s.alertThreshold), ?_,
      s.causes.recordReady_of_recordEntered _, s.causes.queueAlert_of_recordEntered,
      fun c => s.causes.other_of_recordEntered _⟩
    exact takeCommand_of_respond hopen ((releaseEffect_of_overflow hqueue hslot).trans (by rw [State.enqueue_eq]; rfl))
  case clear =>
    rw [exec_clearQueue, takeCommand_of_respond hopen rfl, RecordQueue.held, satAdd, Nat.add_assoc]
    rfl

end Sys2Proof.Machine


/-! SUPPORT. What a judged frame of a peer leaves in the Peer Table and the Cause Unit: a Presence Notice (R156), and a frame
with a differing digest (R154), whose sender's entry raises PEER_INCOMPATIBLE on entering INCOMPATIBLE. -/

namespace Sys2Proof.Machine

/-! ### A cause raised under a condition (R187) -/

theorem State.raiseIf_eq (b : Bool) (c : Cause) (s : State) :
    s.raiseIf b c = { s with causes := (s.raiseIf b c).causes } := by
  cases b <;> rfl

theorem State.flagOf_raiseIf (b : Bool) (c x : Cause) (s : State) :
    flagOf (s.raiseIf b c).causes.pending x = (flagOf s.causes.pending x || (b && decide (c = x))) := by
  cases b with
  | false => simp [State.raiseIf]
  | true => simp [State.raiseIf, State.raise, CauseUnit.flagOf_raise]

/-! ### The sender's entry (R154, R156) -/

/-- R154: the condition on which PEER_INCOMPATIBLE is raised. -/
theorem PeerEntry.turnsIncompatible_eq (p : PeerEntry) (digest own : Nat) :
    p.turnsIncompatible digest own = decide (digest ≠ own ∧ p.state ≠ .incompatible) := by
  rw [Bool.eq_iff_iff]
  simp [PeerEntry.turnsIncompatible]

/-- R154: a differing digest changes the last digest and the state. -/
theorem PeerEntry.takeDigest_of_differs {digest own : Nat} (h : digest ≠ own) (p : PeerEntry) :
    p.takeDigest digest own = { p with lastDigest := digest, state := .incompatible } := by
  simp [PeerEntry.takeDigest, h]

theorem stateOfNotice_eq (announced : NoticeState) :
    stateOfNotice announced = if announced = .quiet then .quiet else .present := by
  cases announced <;> rfl

/-- R154 to R156: the fields of an entry after a Presence Notice. -/
theorem PeerEntry.afterNotice_eq (p : PeerEntry) (n : PresenceNotice) (own : Nat) :
    p.afterNotice n own =
      { p with
        lastDigest := n.digest, roleCode := n.roleCode, weight := n.weight, announced := some n.announced
        announcedExpected := some n.expected
        state :=
          if n.digest ≠ own then .incompatible else if n.announced = .quiet then .quiet else .present } := by
  by_cases hdigest : n.digest = own
  · simp [PeerEntry.afterNotice, PeerEntry.takeNotice, PeerEntry.takeDigest, hdigest, stateOfNotice_eq]
  · simp [PeerEntry.afterNotice, PeerEntry.takeNotice, PeerEntry.takeDigest_of_differs hdigest, hdigest]

/-! ### The station after the frame (R127, R154) -/

/-- The station once a judged frame has put its sender's entry, `before` until then, into the Peer Table. -/
def State.afterPeerFrame (r : Receiver) (before entry : PeerEntry) (digest : Nat) (s : State) : State :=
  { s with receiver := r, peers := putPeer entry s.peers }.raiseIf
    (before.turnsIncompatible digest s.station.digest) .peerIncompatible

section
variable (r : Receiver) (before entry : PeerEntry) (digest : Nat) (s : State)

@[simp] theorem State.afterPeerFrame_peers :
    (s.afterPeerFrame r before entry digest).peers = putPeer entry s.peers := by
  simp [State.afterPeerFrame]

/-- A peer's judged frame changes the receiver, the Peer Table and the Cause Unit, and nothing else. -/
theorem State.afterPeerFrame_eq :
    s.afterPeerFrame r before entry digest =
      { s with
        receiver := r
        peers := (s.afterPeerFrame r before entry digest).peers
        causes := (s.afterPeerFrame r before entry digest).causes } := by
  rw [State.afterPeerFrame_peers]
  exact State.raiseIf_eq _ _ _

/-- R154: PEER_INCOMPATIBLE is raised on the entry into INCOMPATIBLE only. -/
theorem State.flagOf_afterPeerFrame (x : Cause) :
    flagOf (s.afterPeerFrame r before entry digest).causes.pending x =
      (flagOf s.causes.pending x ||
        decide (x = .peerIncompatible ∧ digest ≠ s.station.digest ∧ before.state ≠ .incompatible)) := by
  have hcondition : (before.turnsIncompatible digest s.station.digest && decide (Cause.peerIncompatible = x)) =
      decide (x = .peerIncompatible ∧ digest ≠ s.station.digest ∧ before.state ≠ .incompatible) := by
    rw [PeerEntry.turnsIncompatible_eq, ← Bool.decide_and]
    exact decide_eq_decide.2 (and_comm.trans (and_congr_left' eq_comm))
  rw [← hcondition]
  exact State.flagOf_raiseIf _ _ _ _

end

theorem State.findPeer_afterPeerFrame {entry : PeerEntry} {sender : Nat} (h : entry.address = sender) (r : Receiver)
    (before : PeerEntry) (digest a : Nat) (s : State) :
    findPeer (s.afterPeerFrame r before entry digest).peers a = if a = sender then some entry else findPeer s.peers a := by
  subst h
  rw [State.afterPeerFrame_peers, findPeer_putPeer]
  simp only [eq_comm]

/-! ### The frame handed on (R125, R127) -/

/-- R125: a commissioned station hands a notice from a peer to the Peer Table. -/
theorem State.dispatch_of_notice {s : State} {payload : List Octet} {n : PresenceNotice}
    (hstate : s.station.state ≠ .unconfigured) (hnotice : noticeOfPayload payload = some n)
    (hlow : 1 ≤ fieldAt payload 0 1) (hhigh : fieldAt payload 0 1 ≤ 64)
    (hown : s.items.stationAddress ≠ some (fieldAt payload 0 1)) : s.dispatch 0x32 payload = s.handNotice n := by
  have hsender : ¬(fieldAt payload 0 1 = 0 ∨ 64 < fieldAt payload 0 1) := by omega
  have hlineTest : (0x32 : Octet) ≠ lineTestKind := by decide
  have hkind : (0x32 : Octet) = presenceNoticeKind := rfl
  rw [State.dispatch, if_neg hlineTest, if_neg hstate]
  simp only [State.dispatchFromPeer, if_neg hsender, if_pos hkind, hnotice, if_neg hown]

theorem noticeOfPayload_sender {payload : List Octet} {n : PresenceNotice} (h : noticeOfPayload payload = some n) :
    n.sender = fieldAt payload 0 1 := by
  obtain ⟨announced, -, rfl⟩ := Option.map_eq_some_iff.1 h
  rfl

/-- R127: a notice puts its sender's entry into the Peer Table. -/
theorem State.handNotice_eq (n : PresenceNotice) (s : State) :
    s.handNotice n =
      s.afterPeerFrame s.receiver (s.peerOf n.sender n.roleCode n.weight)
        ((s.peerOf n.sender n.roleCode n.weight).afterNotice n s.station.digest) n.digest := rfl

/-- R127, R154: a report with a differing digest counts as incompatible and reaches no window. -/
theorem State.handReport_of_differs {s : State} {r : WindowReport} (h : r.digest ≠ s.station.digest) :
    s.handReport r =
      s.afterPeerFrame { s.receiver with incompatible := bump s.receiver.incompatible }
        (s.peerOf r.sender r.roleCode r.weight)
        { s.peerOf r.sender r.roleCode r.weight with lastDigest := r.digest, state := .incompatible } r.digest := by
  rw [State.handReport]
  simp only [if_neg h, PeerEntry.takeDigest_of_differs h]
  rfl

/-- R125: the event of a frame that waits is the frame handed on. -/
theorem exec_frameReceived_of_frame {s : State} {kind : Octet} {payload : List Octet} (hrstn : s.rstnHigh = true)
    (hparser : s.receiver.parser = .inFrame) (hlength : payloadLength kind = some payload.length)
    (hframe : s.receiver.frame = frameOctets kind payload) :
    exec .frameReceived s = .next (s.afterFrame.dispatch kind payload) := by
  rw [exec_frameReceived, takeEvent_of_high hrstn, State.judgeWaiting_of_frame hparser hlength hframe]

/-! ### The settled statement -/

/-- Settles O40: both kinds of frame put the sender's entry into the Peer Table through `State.afterPeerFrame`. -/
theorem noticesAndIncompatiblePeers : Obligations.NoticesAndIncompatiblePeers := by
  intro s kind payload hrstn hstate hparser hlength hframe hlow hhigh hown sender after received
  have hexec := exec_frameReceived_of_frame hrstn hparser hlength hframe
  have hreceived : ∀ (r : Receiver) (before entry : PeerEntry) (digest : Nat), entry.address = sender →
      s.afterFrame.dispatch kind payload = s.afterPeerFrame r before entry digest →
      received (s.afterPeerFrame r before entry digest) digest before entry r := by
    intro r before entry digest haddress hdispatch
    have hfind := State.findPeer_afterPeerFrame haddress r before digest
    exact ⟨hexec.trans (congrArg _ hdispatch), s.afterPeerFrame_eq r before entry digest,
      fun a ha => (hfind a s).trans (if_neg ha), (hfind sender s).trans (if_pos rfl),
      s.flagOf_afterPeerFrame r before entry digest⟩
  refine ⟨?notice, ?report⟩
  case notice =>
    intro n hkind hnotice before
    have hsender : n.sender = sender := noticeOfPayload_sender hnotice
    have haddress : before.address = sender := s.peerOf_address sender n.roleCode n.weight
    refine ⟨_, hreceived after before _ n.digest haddress ?_⟩
    rw [hkind, State.dispatch_of_notice (s := s.afterFrame) hstate hnotice hlow hhigh hown, State.handNotice_eq,
      hsender, PeerEntry.afterNotice_eq]
    rfl
  case report =>
    intro hkind r before hdigest
    have haddress : before.address = sender := s.peerOf_address sender r.roleCode r.weight
    refine ⟨_, hreceived _ before _ r.digest haddress ?_⟩
    rw [hkind, State.dispatch_of_report (s := s.afterFrame) hstate hlow hhigh hown,
      State.handReport_of_differs (s := s.afterFrame) hdigest]
    rfl

end Sys2Proof.Machine

/-! SUPPORT. READ ITEM (R178, R197): what stands under each code, the octets of a value and of the Holiday List, and the
answer. -/

namespace Sys2Proof.Machine

/-! ### Four octets and the Holiday List (R193, R197) -/

theorem octets_four (v : Nat) :
    octets 4 v =
      [BitVec.ofNat 8 (v / 16777216), BitVec.ofNat 8 (v / 65536), BitVec.ofNat 8 (v / 256), BitVec.ofNat 8 v] := by
  simp [octets]

@[simp] theorem ofOctets_zeros (n : Nat) : ofOctets (zeros n) = 0 := by
  induction n with
  | zero => rfl
  | succ n ih => exact ih

@[simp] theorem fieldAt_zeros (n offset len : Nat) : fieldAt (zeros n) offset len = 0 := by
  rw [fieldAt, zeros, List.drop_replicate, List.take_replicate]
  exact ofOctets_zeros _

/-- A field that ends inside the part of a layout that is kept. -/
theorem fieldAt_take (l : List Octet) {offset len n : Nat} (h : offset + len ≤ n) :
    fieldAt (l.take n) offset len = fieldAt l offset len := by
  rw [fieldAt, List.drop_take, List.take_take, Nat.min_eq_left (by omega), fieldAt]

/-- Two-octet fields with zeros after them: field k is the k-th number, and 0 past the last one. -/
theorem fieldAt_flatten_octets_two (l : List Nat) (m k : Nat) :
    fieldAt ((l.map (octets 2)).flatten ++ zeros m) (2 * k) 2 = (l[k]?).getD 0 % 65536 := by
  induction l generalizing k with
  | nil => simp
  | cons v l ih =>
    rw [List.map_cons, List.flatten_cons, List.append_assoc]
    cases k with
    | zero => rw [fieldAt_append_left _ _ _ _ (by simp)]; simp
    | succ k =>
      have hrest : 2 * (k + 1) - (octets 2 v).length = 2 * k := by rw [octets_length]; omega
      rw [fieldAt_append_right _ _ _ _ (by simp), hrest, ih]
      rfl

@[simp] theorem holidayOctets_length (l : List Nat) : (holidayOctets l).length = 33 := by
  simp [holidayOctets]

/-- R197: the count stands in the first octet. -/
theorem holidayOctets_count (l : List Nat) : fieldAt (holidayOctets l) 0 1 = l.length % 256 := by
  rw [holidayOctets, fieldAt_append_left _ _ _ _ (by simp), fieldAt_octets, pow_one]

/-- R197: day k stands in octets 1 + 2k and 2 + 2k, and unused fields are 0x0000. -/
theorem holidayOctets_day (l : List Nat) {k : Nat} (hk : k < 16) :
    fieldAt (holidayOctets l) (1 + 2 * k) 2 = (l[k]?).getD 0 % 65536 := by
  have hoffset : 1 + 2 * k - (octets 1 l.length).length = 2 * k := by rw [octets_length]; omega
  rw [holidayOctets, fieldAt_append_right _ _ _ _ (by simp), hoffset, fieldAt_take _ (by omega),
    fieldAt_flatten_octets_two]

/-! ### What stands under a code (R177, R197) -/

theorem readItemValue_stationAddress (i : Items) (c : Calendar) :
    readItemValue i c (BitVec.ofNat 8 0x01) = readOptional i.stationAddress := rfl

theorem readItemValue_role (i : Items) (c : Calendar) :
    readItemValue i c (BitVec.ofNat 8 0x02) = readOptional (i.role.map fun r => r.code.toNat) := rfl

theorem readItemValue_windowLength (i : Items) (c : Calendar) :
    readItemValue i c (BitVec.ofNat 8 0x09) = readOptional (i.windowLength.map WindowLength.minutes) := rfl

theorem readItemValue_of_weekday (i : Items) (c : Calendar) {n : Nat} (hn : n < 6) :
    readItemValue i c (BitVec.ofNat 8 (0x10 + n)) = .stored (octets 4 (c.weekday.item n).toNat) := by
  interval_cases n <;> rfl

theorem readItemValue_of_weekend (i : Items) (c : Calendar) {n : Nat} (hn : n < 6) :
    readItemValue i c (BitVec.ofNat 8 (0x18 + n)) = .stored (octets 4 (c.weekend.item n).toNat) := by
  interval_cases n <;> rfl

theorem readItemValue_of_rateHeat (i : Items) (c : Calendar) {b : Nat} (hb : b < 4) :
    readItemValue i c (BitVec.ofNat 8 (0x28 + b)) = .stored (octets 4 (i.rate.heat.get b)) := by
  interval_cases b <;> rfl

theorem readItemValue_of_rateCool (i : Items) (c : Calendar) {b : Nat} (hb : b < 4) :
    readItemValue i c (BitVec.ofNat 8 (0x2C + b)) = .stored (octets 4 (i.rate.cool.get b)) := by
  interval_cases b <;> rfl

/-- R197: the codes between and past the items' codes name no item. -/
theorem readItemValue_of_noItem (i : Items) (c : Calendar) {code : Octet}
    (h : code.toNat = 0 ∨ code.toNat = 0x0F ∨ code.toNat = 0x16 ∨ code.toNat = 0x17 ∨ code.toNat = 0x1E ∨
      code.toNat = 0x1F ∨ 0x22 ≤ code.toNat ∧ code.toNat ≤ 0x27 ∨ 0x30 ≤ code.toNat) :
    readItemValue i c code = .noItem := by
  have hweekday : ¬(0x10 ≤ code.toNat ∧ code.toNat ≤ 0x15) := by omega
  have hweekend : ¬(0x18 ≤ code.toNat ∧ code.toNat ≤ 0x1D) := by omega
  have hrateHeat : ¬(0x28 ≤ code.toNat ∧ code.toNat ≤ 0x2B) := by omega
  have hrateCool : ¬(0x2C ≤ code.toNat ∧ code.toNat ≤ 0x2F) := by omega
  unfold readItemValue
  split
  case h_17 => rw [if_neg hweekday, if_neg hweekend, if_neg hrateHeat, if_neg hrateCool]
  all_goals omega

/-! ### Taking READ ITEM (R178) -/

theorem exec_readItem (code : Octet) (s : State) : exec (.readItem code) s = takeCommand (readItemEffect code) s := rfl

section
variable {s : State} {code : Octet}

theorem exec_readItem_of_stored {body : List Octet} (hopen : s.portOpen)
    (h : readItemValue s.items s.calendar code = .stored body) :
    exec (.readItem code) s = .next (s.answered .ok body) := by
  rw [exec_readItem]
  exact takeCommand_of_respond hopen (by rw [readItemEffect, h])

/-- R182, R196: the answer of an unset item other than the Holiday List is four octets of 0x00. -/
theorem exec_readItem_of_unset (hopen : s.portOpen) (hcode : code ≠ holidayAddCode)
    (h : readItemValue s.items s.calendar code = .unset) :
    exec (.readItem code) s = .next (s.answered .empty (zeros 4)) := by
  rw [exec_readItem]
  exact takeCommand_of_respond hopen (by rw [readItemEffect, h, readItemLength, if_neg hcode]; rfl)

theorem exec_readItem_of_noItem (hopen : s.portOpen) (hcode : code ≠ holidayAddCode)
    (h : readItemValue s.items s.calendar code = .noItem) :
    exec (.readItem code) s = .next (s.answered .badItem (zeros 4)) := by
  rw [exec_readItem]
  exact takeCommand_of_respond hopen (by rw [readItemEffect, h, readItemLength, if_neg hcode]; rfl)

/-- A stored number is answered as its four octets. -/
theorem exec_readItem_of_number {v : Nat} (hopen : s.portOpen)
    (h : readItemValue s.items s.calendar code = .stored (octets 4 v)) :
    exec (.readItem code) s = .next (s.answered .ok
      [BitVec.ofNat 8 (v / 16777216), BitVec.ofNat 8 (v / 65536), BitVec.ofNat 8 (v / 256), BitVec.ofNat 8 v]) := by
  rw [← octets_four]
  exact exec_readItem_of_stored hopen h

end

/-! ### The settled statement -/

/-- Settles O13: the table of R197 says what stands under each code, and the answer is the one of what stands there. -/
theorem readItemReturnsStoredValue : Obligations.ReadItemReturnsStoredValue := by
  intro s hopen answers stored
  have hstored : ∀ {code v : Nat},
      readItemValue s.items s.calendar (BitVec.ofNat 8 code) = .stored (octets 4 v) → stored code v :=
    exec_readItem_of_number hopen
  refine ⟨fun a ha => hstored ?address, fun hrole => hstored ?tenant, fun hrole => hstored ?common, hstored rfl,
    hstored rfl, hstored rfl, hstored rfl, hstored rfl, hstored rfl, fun l hl => hstored ?windowLength, hstored rfl,
    hstored rfl, hstored rfl, hstored rfl, hstored rfl,
    fun n hn => hstored (readItemValue_of_weekday _ _ hn), fun n hn => hstored (readItemValue_of_weekend _ _ hn),
    hstored rfl,
    fun b hb => hstored (readItemValue_of_rateHeat _ _ hb), fun b hb => hstored (readItemValue_of_rateCool _ _ hb),
    fun haddress => exec_readItem_of_unset hopen (by decide) ?noAddress,
    fun hrole => exec_readItem_of_unset hopen (by decide) ?noRole,
    fun hlength => exec_readItem_of_unset hopen (by decide) ?noWindowLength,
    ⟨holidayOctets s.calendar.holidays, exec_readItem_of_stored hopen rfl, holidayOctets_length _,
      holidayOctets_count _, fun k hk => holidayOctets_day _ hk⟩,
    fun code hcode hnone => ?noItem⟩
  case address => rw [readItemValue_stationAddress, ha]; rfl
  case tenant | common => rw [readItemValue_role, hrole]; rfl
  case windowLength => rw [readItemValue_windowLength, hl]; rfl
  case noAddress => rw [readItemValue_stationAddress, haddress]; rfl
  case noRole => rw [readItemValue_role, hrole]; rfl
  case noWindowLength => rw [readItemValue_windowLength, hlength]; rfl
  case noItem =>
    have htoNat : (BitVec.ofNat 8 code).toNat = code := by rw [BitVec.toNat_ofNat, Nat.mod_eq_of_lt hcode]
    refine exec_readItem_of_noItem hopen (fun hholiday => ?_) (readItemValue_of_noItem _ _ (by rwa [htoNat]))
    have hcode32 : code = 0x20 := htoNat.symm.trans (congrArg BitVec.toNat hholiday)
    omega

end Sys2Proof.Machine

/-! SUPPORT. The Cause Unit: a cause's flag as a bit of the cause word (R187, R193), what READ CAUSE reads and clears (R188),
the controls SET ENABLES gives (R189), the pulse a cause starts (R191) and the level of IRQN (R190). -/

namespace Sys2Proof.Machine

/-! ### Flags and bits (R187, R193) -/

/-- The cause of priority rank `n`, counted from 0, has number `n + 1`. -/
theorem Cause.number_inPriority {n : Nat} (h : n < Cause.inPriority.length) : Cause.inPriority[n].number = n + 1 := by
  revert n
  decide

theorem Cause.exists_number {n : Nat} (h : n < 10) : ∃ c : Cause, c.number = n + 1 :=
  ⟨_, Cause.number_inPriority h⟩

theorem Cause.number_range (c : Cause) : 1 ≤ c.number ∧ c.number ≤ 10 := by cases c <;> decide

theorem Cause.inPriority_number (c : Cause) :
    ∃ h : c.number - 1 < Cause.inPriority.length, Cause.inPriority[c.number - 1] = c := by
  cases c <;> exact ⟨by decide, rfl⟩

theorem Cause.mask_getLsbD (c : Cause) (k : Nat) : c.mask.getLsbD k = decide (k + 1 = c.number) := by
  obtain ⟨hlow, hhigh⟩ := c.number_range
  rw [Cause.mask, ← BitVec.twoPow_eq, BitVec.getLsbD_twoPow, ← Bool.decide_and, decide_eq_decide]
  omega

theorem flagOf_eq_getLsbD (flags : BitVec 10) (c : Cause) : flagOf flags c = flags.getLsbD (c.number - 1) := by
  have hmask : c.mask ≠ 0#10 := by cases c <;> decide
  rw [flagOf, Cause.mask, ← BitVec.twoPow_eq, BitVec.and_twoPow, BitVec.twoPow_eq, ← Cause.mask]
  cases flags.getLsbD (c.number - 1) <;> simp [hmask]

theorem flagOf_of_number {c : Cause} {n : Nat} (h : c.number = n + 1) (flags : BitVec 10) :
    flagOf flags c = flags.getLsbD n := by
  rw [flagOf_eq_getLsbD, h, Nat.add_sub_cancel]

theorem flagOf_and (x y : BitVec 10) (c : Cause) : flagOf (x &&& y) c = (flagOf x c && flagOf y c) := by
  simp only [flagOf_eq_getLsbD, BitVec.getLsbD_and]

/-- Ten flags are not all clear exactly where some cause's flag is set. -/
theorem ne_zero_iff_exists_flagOf (flags : BitVec 10) : flags ≠ 0#10 ↔ ∃ c, flagOf flags c = true := by
  constructor
  · intro hne
    by_contra hclear
    refine hne (BitVec.eq_of_getLsbD_eq fun n hn => ?_)
    obtain ⟨c, hc⟩ := Cause.exists_number hn
    rw [← flagOf_of_number hc, BitVec.getLsbD_zero]
    exact Bool.eq_false_iff.2 fun hset => hclear ⟨c, hset⟩
  · rintro ⟨c, hset⟩ rfl
    simp [flagOf] at hset

/-! ### Reading the highest-priority cause (R188) -/

theorem CauseUnit.highest_of_clear {u : CauseUnit} (h : u.pending = 0#10) : u.highest = none := by
  rw [CauseUnit.highest, List.find?_eq_none]
  intro c _ hset
  exact (ne_zero_iff_exists_flagOf _).2 ⟨c, hset⟩ h

theorem CauseUnit.highest_of_lowest {u : CauseUnit} {c : Cause} (hset : flagOf u.pending c = true)
    (hlower : ∀ d : Cause, d.number < c.number → flagOf u.pending d = false) : u.highest = some c := by
  obtain ⟨hlt, hc⟩ := c.inPriority_number
  rw [CauseUnit.highest, List.find?_eq_some_iff_getElem]
  refine ⟨hset, c.number - 1, hlt, hc, fun j hj => ?_⟩
  rw [hlower _ (by rw [Cause.number_inPriority]; omega), Bool.not_false]

theorem octets_one (v : Nat) : octets 1 v = [BitVec.ofNat 8 v] := by simp [octets]

theorem causeWord_eq (flags : BitVec 10) :
    causeWord flags = [BitVec.ofNat 8 (flags.toNat / 256), BitVec.ofNat 8 flags.toNat] := by
  simp [causeWord, octets]

theorem exec_readCause (s : State) : exec .readCause s = takeCommand readCauseEffect s := rfl

theorem readCauseEffect_of_none {s : State} (h : s.causes.highest = none) :
    readCauseEffect s = (s, respond .ok (0x00 :: causeWord s.causes.pending)) := by
  have hread : s.causes.readHighest = s.causes := by rw [CauseUnit.readHighest, h]
  rw [readCauseEffect, hread, CauseUnit.highestNumber, h]
  rfl

theorem readCauseEffect_of_some {s : State} {c : Cause} (h : s.causes.highest = some c) :
    readCauseEffect s =
      ({ s with causes := { s.causes with pending := s.causes.pending &&& ~~~c.mask } },
        respond .ok (BitVec.ofNat 8 c.number :: causeWord (s.causes.pending &&& ~~~c.mask))) := by
  have hread : s.causes.readHighest = { s.causes with pending := s.causes.pending &&& ~~~c.mask } := by
    rw [CauseUnit.readHighest, h]
  rw [readCauseEffect, hread, CauseUnit.highestNumber, h, octets_one]
  rfl

theorem getLsbD_and_not_mask {c : Cause} {n k : Nat} (hc : c.number = n + 1) (hk : k < 10) (flags : BitVec 10) :
    (flags &&& ~~~c.mask).getLsbD k = (decide (k ≠ n) && flags.getLsbD k) := by
  rw [BitVec.getLsbD_and, BitVec.getLsbD_not, Cause.mask_getLsbD, hc]
  simp [hk, Bool.and_comm]

/-! ### SET ENABLES (R189) -/

theorem exec_setEnables (enables : BitVec 16) (master mode : Octet) (s : State) :
    exec (.setEnables enables master mode) s = takeCommand (setEnablesEffect enables master mode) s := rfl

theorem irqModeOfCode_of_above {mode : Octet} (h : 1 < mode.toNat) : irqModeOfCode mode = none := by
  have hlevel : mode ≠ 0x00 := by rintro rfl; simp at h
  have hpulse : mode ≠ 0x01 := by rintro rfl; simp at h
  rw [irqModeOfCode, if_neg hlevel, if_neg hpulse]

theorem eq_zero_or_one_of_toNat_le {o : Octet} (h : o.toNat ≤ 1) : o = 0x00 ∨ o = 0x01 := by bv_omega

theorem irqModeOfCode_of_le {mode : Octet} (h : mode.toNat ≤ 1) :
    irqModeOfCode mode = some (if mode = 0x00 then .level else .pulse) := by
  rcases eq_zero_or_one_of_toNat_le h with rfl | rfl <;> rfl

theorem setEnablesEffect_of_above {mode : Octet} (h : 1 < mode.toNat) (enables : BitVec 16) (master : Octet) (s : State) :
    setEnablesEffect enables master mode s = statusOnly .badValue 0 s := by
  rw [setEnablesEffect, irqModeOfCode_of_above h]

theorem setEnablesEffect_of_le {mode : Octet} (h : mode.toNat ≤ 1) (enables : BitVec 16) (master : Octet) (s : State) :
    setEnablesEffect enables master mode s =
      ({ s with causes := s.causes.setControls enables master (if mode = 0x00 then .level else .pulse) },
        respond .ok []) := by
  rw [setEnablesEffect, irqModeOfCode_of_le h]

/-- The controls in the terms of the command's octets: bits 0 to 9 of the enables, the master octet as a mark, and a pulse
that goes on in PULSE mode with the master enable on only. -/
theorem CauseUnit.setControls_of_octets {mode : Octet} (h : mode.toNat ≤ 1) (u : CauseUnit) (enables : BitVec 16)
    (master : Octet) :
    u.setControls enables master (if mode = 0x00 then .level else .pulse) =
      { pending := u.pending, enables := BitVec.ofNat 10 enables.toNat, master := decide (master ≠ 0x00)
        mode := if mode = 0x00 then .level else .pulse
        pulse := u.pulse && decide (u.mode = IrqMode.pulse ∧ mode = 0x01 ∧ master ≠ 0x00) } := by
  have hlow : enables.extractLsb' 0 10 = BitVec.ofNat 10 enables.toNat := by simp [BitVec.extractLsb']
  have hmaster : (master != 0) = decide (master ≠ 0x00) := by simp [bne, beq_eq_decide]
  rw [CauseUnit.setControls, hlow, hmaster]
  rcases eq_zero_or_one_of_toNat_le h with rfl | rfl
  · simp
  · simp [beq_eq_decide, Bool.and_assoc]

/-! ### Raising a cause, and IRQN (R189 to R191) -/

theorem exec_irqnPulseEnd (s : State) :
    exec .irqnPulseEnd s = takeEvent (fun s => { s with causes := { s.causes with pulse := false } }) s := rfl

theorem exec_irqnPulseEnd_of_high {s : State} (h : s.rstnHigh = true) :
    exec .irqnPulseEnd s = .next { s with causes := { s.causes with pulse := false } } := by
  rw [exec_irqnPulseEnd, takeEvent_of_high h]

theorem CauseUnit.raise_pulse (c : Cause) (u : CauseUnit) :
    (u.raise c).pulse =
      (u.pulse ||
        decide (u.mode = .pulse ∧ u.master = true ∧ flagOf u.enables c = true ∧ flagOf u.pending c = false)) := by
  simp [CauseUnit.raise, beq_eq_decide, Bool.and_assoc]

theorem CauseUnit.irqnAsserted_of_level {u : CauseUnit} (h : u.mode = .level) :
    u.irqnAsserted = true ↔ u.master = true ∧ ∃ c, flagOf u.pending c = true ∧ flagOf u.enables c = true := by
  have hany := ne_zero_iff_exists_flagOf (u.pending &&& u.enables)
  simp only [flagOf_and, Bool.and_eq_true] at hany
  rw [CauseUnit.irqnAsserted, h, Bool.and_eq_true, bne_iff_ne, hany]

theorem CauseUnit.irqnAsserted_of_pulse {u : CauseUnit} (h : u.mode = .pulse) : u.irqnAsserted = u.pulse := by
  rw [CauseUnit.irqnAsserted, h]

/-! ### The settled statement -/

/-- Settles O51: the cause of the lowest set bit is the first of the priority list with its flag set; the controls follow the
two cases of the mode octet. -/
theorem causeUnitRules : Obligations.CauseUnitRules := by
  intro s u
  refine ⟨fun hopen hclear => ?none, fun hopen n hn hset hlower => ?lowest,
    fun hopen enables master mode => ⟨fun habove => ?badMode, fun hle => ?controls⟩,
    exec_irqnPulseEnd_of_high, fun c x => ⟨?flag, CauseUnit.raise_pulse c u⟩, CauseUnit.irqnAsserted_of_level,
    CauseUnit.irqnAsserted_of_pulse⟩
  case none =>
    rw [exec_readCause]
    refine takeCommand_of_respond hopen ?_
    rw [readCauseEffect_of_none (CauseUnit.highest_of_clear hclear), hclear]
    rfl
  case lowest =>
    obtain ⟨c, hc⟩ := Cause.exists_number hn
    have hhighest : u.highest = some c := by
      refine CauseUnit.highest_of_lowest (by rwa [flagOf_of_number hc]) fun d hd => ?_
      obtain ⟨hlow, -⟩ := d.number_range
      rw [flagOf_eq_getLsbD]
      exact hlower _ (by omega)
    refine ⟨u.pending &&& ~~~c.mask, ?_, fun k hk => getLsbD_and_not_mask hc hk _⟩
    rw [exec_readCause]
    exact takeCommand_of_respond hopen (by rw [readCauseEffect_of_some hhighest, hc, causeWord_eq])
  case badMode =>
    rw [exec_setEnables]
    exact takeCommand_of_statusOnly hopen (setEnablesEffect_of_above habove enables master s)
  case controls =>
    rw [exec_setEnables]
    refine takeCommand_of_respond hopen ?_
    rw [setEnablesEffect_of_le hle, CauseUnit.setControls_of_octets hle]
  case flag => rw [CauseUnit.flagOf_raise, Bool.or_comm, decide_eq_decide.2 eq_comm]

end Sys2Proof.Machine

/-! SUPPORT. The three ways a command acts: a host command taken in an open transaction (R181), an event taken while RSTN is
high (R179), and the pins of the port and of the supply. What RSTN low holds (R179), and the commands that every state
answers. -/

namespace Sys2Proof.Machine

/-! ### Host commands and events -/

/-- R184: the effect of a host command that is taken, with the check of the station state it passes. RESET answers nothing
(R179) and is not among them. -/
def hostEffect : Instr → Option (State → State × List Octet)
  | .writeItem code value => some (unconfiguredOnly 0 (writeItemEffect code value))
  | .holidayAdd value => some (unconfiguredOnly 0 (holidayAddEffect value))
  | .holidayClear value => some (unconfiguredOnly 0 (holidayClearEffect value))
  | .readItem code => some (readItemEffect code)
  | .setClock day second => some (unconfiguredOnly 0 (setClockEffect day second))
  | .trimClock seconds => some (commissionedOnly 0 (trimClockEffect seconds))
  | .commission => some (unconfiguredOnly 0 commissionEffect)
  | .quiet => some (afterJoiningOnly 0 quietEffect)
  | .speak => some (commissionedOnly 0 speakEffect)
  | .snapshot => some (commissionedOnly 0 snapshotEffect)
  | .fetchRecord => some fetchEffect
  | .releaseRecord => some releaseEffect
  | .clearQueue => some clearQueueEffect
  | .readStatus => some fun s => (s, respond .ok (statusOctets s))
  | .readCause => some readCauseEffect
  | .setEnables enables master mode => some (setEnablesEffect enables master mode)
  | .readWindow selector => some (readWindowEffect selector)
  | .readPeer address => some (readPeerEffect address)
  | .readTotals => some fun s => (s, respond .ok (totalsOctets s))
  | .readLine => some fun s => (s, respond .ok (lineOctets s))
  | .clearFailure => some clearFailureEffect
  | .restartLine => some (commissionedOnly 0 restartLineEffect)
  | .resetConverter => some (commissionedOnly 0 resetConverterEffect)
  | .lineTestMode mode => some (unconfiguredOnly 0 (lineTestModeEffect mode))
  | .sendTest => some (unconfiguredOnly 0 sendTestEffect)
  | .unknownCommand octet => if namesCommand octet then none else some (statusOnly .unknownCommand 0)
  | _ => none

theorem hostEffect_unknownCommand (octet : Octet) :
    hostEffect (.unknownCommand octet) =
      if namesCommand octet then none else some (statusOnly .unknownCommand 0) := rfl

theorem exec_unknownCommand (octet : Octet) (s : State) :
    exec (.unknownCommand octet) s =
      if namesCommand octet then .fault (.illFormedCommand octet)
      else takeCommand (statusOnly .unknownCommand 0) s := rfl

theorem exec_eq_hostEffect (c : Instr) (s : State) :
    exec c s = ((hostEffect c).map fun e => takeCommand e s).getD (exec c s) := by
  cases c
  case unknownCommand octet =>
    rw [hostEffect_unknownCommand, exec_unknownCommand]
    cases namesCommand octet <;> rfl
  all_goals rfl

theorem exec_of_hostEffect {c : Instr} {e : State → State × List Octet} (h : hostEffect c = some e) (s : State) :
    exec c s = takeCommand e s := by
  rw [exec_eq_hostEffect, h]
  rfl

/-- The effect of an event that is taken while RSTN is high, no occurrence where its condition does not hold. -/
def eventEffect : Instr → Option (State → State)
  | .flowPulse circuit => some fun s => { s with meters := changeMeter CircuitMeter.countPulse circuit s.meters }
  | .recoveryEnd => some fun s => if s.recoveryEnds then s.returnToMains else s
  | .countedSecondEnd =>
    some fun s =>
      if s.timebase.clockValid && !s.outstanding then
        { s with timebase := s.timebase.endSecond s.items.length s.items.grace }
      else s
  | .slewStep => some fun s => { s with timebase := s.timebase.settleSlew }
  | .cycleEvent hs hr cs cr => some fun s => if s.timebase.due.cycleEvent then s.cycle hs hr cs cr else s
  | .converterRestartEnd =>
    some fun s => if s.restartEnds then { s with converter := { s.converter with state := .running } } else s
  | .windowBoundary => some fun s => if s.timebase.due.windowBoundary && !s.timebase.due.cycleEvent then s.boundary else s
  | .dayBoundary =>
    some fun s =>
      if s.timebase.due.dayBoundary then
        { s with
          timebase := { s.timebase with due := { s.timebase.due with dayBoundary := false } }
          contexts := s.contexts.rollOver s.timebase.day s.receiver.errors }
      else s
  | .graceExpiry => some fun s => if s.timebase.due.graceExpiry then s.graceExpiry else s
  | .idleGap => some fun s => if s.gapCanEnd then s.idleGap else s
  | .lineOctetReceived octet stopBit =>
    some fun s =>
      match s.sourceCharacter octet stopBit with
      | some (o, stop) => s.character o stop
      | none => s
  | .frameReceived => some State.judgeWaiting
  | .backoffExpiry => some fun s => if s.transmitter.state = .backoff then s.startSending else s
  | .txCollision => some fun s => if s.transmitter.canCollide then s.collide else s
  | .txSuccess => some fun s => if s.transmitter.canSucceed then s.succeed else s
  | .lineStuck =>
    some fun s =>
      if s.lineCanStick then
        { s with transmitter := { s.transmitter with stuckTimer := stuckLimit } }.reportStuck
      else s
  | .irqnPulseEnd => some fun s => { s with causes := { s.causes with pulse := false } }
  | .startBit => some fun s => if s.sourceStarts then s.startBit else s
  | _ => none

theorem exec_eq_eventEffect (c : Instr) (s : State) :
    exec c s = ((eventEffect c).map fun e => takeEvent e s).getD (exec c s) := by
  cases c <;> rfl

theorem exec_of_eventEffect {c : Instr} {e : State → State} (h : eventEffect c = some e) (s : State) :
    exec c s = takeEvent e s := by
  rw [exec_eq_eventEffect, h]
  rfl

end Sys2Proof.Machine

/-! SUPPORT. What the commands raise (R187): the Cause Unit after each shared operation is the one before with some of a few
causes raised. -/

namespace Sys2Proof.Machine

/-- R189: the Cause Unit `v` is `u` with causes of `S` raised, in some order. -/
inductive CauseUnit.RaisedFrom (S : Set Cause) (u : CauseUnit) : CauseUnit → Prop
  | refl : RaisedFrom S u u
  | raise {v : CauseUnit} {c : Cause} : RaisedFrom S u v → c ∈ S → RaisedFrom S u (v.raise c)

namespace CauseUnit.RaisedFrom

variable {S T : Set Cause} {u v w : CauseUnit}

theorem of_eq (h : v = u) : RaisedFrom S u v := h ▸ .refl

theorem mono (h : RaisedFrom S u v) (hST : S ⊆ T) : RaisedFrom T u v := by
  induction h with
  | refl => exact .refl
  | raise _ hc ih => exact ih.raise (hST hc)

theorem controls (h : RaisedFrom S u v) : v.enables = u.enables ∧ v.master = u.master ∧ v.mode = u.mode := by
  induction h with
  | refl => exact ⟨rfl, rfl, rfl⟩
  | raise _ _ ih => exact ih

theorem other (h : RaisedFrom S u v) {c : Cause} (hc : c ∉ S) : flagOf v.pending c = flagOf u.pending c := by
  induction h with
  | refl => rfl
  | raise _ hd ih =>
    have hne : _ ≠ c := fun heq => hc (heq ▸ hd)
    simp [CauseUnit.flagOf_raise, ih, hne]

theorem pending (h : RaisedFrom S u v) {c : Cause} (hc : flagOf u.pending c = true) : flagOf v.pending c = true := by
  induction h with
  | refl => exact hc
  | raise _ _ ih => simp [CauseUnit.flagOf_raise, ih]

/-- R191: a pulse that a raise starts is one of PULSE mode with the master enable on. -/
theorem pulse (h : RaisedFrom S u v) (hu : u.pulse = true → u.mode = .pulse ∧ u.master = true) :
    v.pulse = true → v.mode = .pulse ∧ v.master = true := by
  induction h with
  | refl => exact hu
  | raise _ _ ih =>
    rw [CauseUnit.raise_pulse, Bool.or_eq_true, decide_eq_true_eq]
    rintro (hpulse | ⟨hmode, hmaster, -⟩)
    exacts [ih hpulse, ⟨hmode, hmaster⟩]

end CauseUnit.RaisedFrom

/-- The causes a record offered to the queue can raise (R100, R101). -/
def Cause.ofRecords : Set Cause := {.recordReady, .queueAlert, .queueOverrun}

/-- The causes a frame from a peer can raise (R126, R154). -/
def Cause.ofPeers : Set Cause := {.addressClash, .peerIncompatible}

/-- The causes a cycle event can raise (R13, R19). -/
def Cause.ofCycle : Set Cause := {.flowOverrange, .sensorFault}

section
variable {S : Set Cause} {u : CauseUnit} {s : State}

open CauseUnit (RaisedFrom)

/-! ### The transmit queue raises TX_FAILURE only -/

theorem State.raise_raised {c : Cause} (h : RaisedFrom S u s.causes) (hc : c ∈ S) :
    RaisedFrom S u (s.raise c).causes :=
  RaisedFrom.raise h hc

theorem State.raiseIf_raised {b : Bool} {c : Cause} (h : RaisedFrom S u s.causes) (hc : c ∈ S) :
    RaisedFrom S u (s.raiseIf b c).causes := by
  cases b
  exacts [h, State.raise_raised h hc]

theorem State.reportStuck_raised (h : RaisedFrom S u s.causes) (hc : .txFailure ∈ S) :
    RaisedFrom S u s.reportStuck.causes := by
  unfold State.reportStuck
  split
  exacts [State.raise_raised h hc, h]

theorem State.enterWaitIdle_raised (h : RaisedFrom S u s.causes) (hc : .txFailure ∈ S) :
    RaisedFrom S u s.enterWaitIdle.causes := by
  unfold State.enterWaitIdle
  split
  exacts [h, State.reportStuck_raised h hc]

theorem State.chooseCurrent_raised (h : RaisedFrom S u s.causes) (hc : .txFailure ∈ S) :
    RaisedFrom S u s.chooseCurrent.causes := by
  unfold State.chooseCurrent
  repeat' split
  exacts [h, h, h, State.enterWaitIdle_raised h hc]

theorem State.requestNotice_raised {a : NoticeState} (h : RaisedFrom S u s.causes) (hc : .txFailure ∈ S) :
    RaisedFrom S u (s.requestNotice a).causes := by
  unfold State.requestNotice
  repeat' split
  · simpa using h
  · exact h
  · exact State.chooseCurrent_raised h hc

theorem State.queueReport_raised {k : ReportContent} (h : RaisedFrom S u s.causes) (hc : .txFailure ∈ S) :
    RaisedFrom S u (s.queueReport k).causes :=
  State.chooseCurrent_raised h hc

theorem State.boundaryWindows_raised {e : WindowEntry} (h : RaisedFrom S u s.causes) (hc : .txFailure ∈ S) :
    RaisedFrom S u (s.boundaryWindows e).causes := by
  unfold State.boundaryWindows
  dsimp only
  split
  exacts [State.queueReport_raised h hc, h]

theorem State.periodicNotice_raised {b : Bool} (h : RaisedFrom S u s.causes) (hc : .txFailure ∈ S) :
    RaisedFrom S u (s.periodicNotice b).causes := by
  unfold State.periodicNotice
  split
  exacts [State.requestNotice_raised h hc, h]

theorem State.boundary_raised (h : RaisedFrom S u s.causes) (hc : .txFailure ∈ S) :
    RaisedFrom S u s.boundary.causes := by
  unfold State.boundary
  dsimp only
  split
  · exact h
  · exact State.periodicNotice_raised (State.boundaryWindows_raised h hc) hc

theorem State.withdrawStale_raised (h : RaisedFrom S u s.causes) (hc : .txFailure ∈ S) :
    RaisedFrom S u s.withdrawStale.causes :=
  State.chooseCurrent_raised (State.raise_raised h hc) hc

theorem State.settleAtExpiry_raised {x : ReportStatus} (h : RaisedFrom S u s.causes) (hc : .txFailure ∈ S) :
    RaisedFrom S u (s.settleAtExpiry x).causes := by
  unfold State.settleAtExpiry
  repeat' split
  exacts [h, State.withdrawStale_raised h hc, h]

theorem State.giveUp_raised (h : RaisedFrom S u s.causes) (hc : .txFailure ∈ S) : RaisedFrom S u s.giveUp.causes :=
  RaisedFrom.raise h hc

theorem State.expiredCollision_raised (h : RaisedFrom S u s.causes) (hc : .txFailure ∈ S) :
    RaisedFrom S u s.expiredCollision.causes :=
  RaisedFrom.raise h hc

theorem State.reportCollision_raised {r : ReportSlot} (h : RaisedFrom S u s.causes) (hc : .txFailure ∈ S) :
    RaisedFrom S u (s.reportCollision r).causes := by
  unfold State.reportCollision
  repeat' split
  · exact State.expiredCollision_raised h hc
  · exact h
  · exact State.giveUp_raised (by simpa using h) hc

theorem State.noticeCollision_raised {n : NoticeSlot} (h : RaisedFrom S u s.causes) (hc : .txFailure ∈ S) :
    RaisedFrom S u (s.noticeCollision n).causes := by
  unfold State.noticeCollision
  repeat' split
  · exact h
  · exact h
  · exact State.giveUp_raised (by simpa using h) hc

theorem State.frameCollision_raised {x : Option Slot} (h : RaisedFrom S u s.causes) (hc : .txFailure ∈ S) :
    RaisedFrom S u (s.frameCollision x).causes := by
  unfold State.frameCollision
  split
  exacts [State.reportCollision_raised h hc, State.noticeCollision_raised h hc, h]

/-! ### The queue of records, the close and the cycle -/

theorem State.enqueue_raised {r : Record} (h : RaisedFrom S u s.causes) (hc : Cause.ofRecords ⊆ S) :
    RaisedFrom S u (s.enqueue r).causes :=
  State.raiseIf_raised (State.raise_raised h (hc (by simp [Cause.ofRecords]))) (hc (by simp [Cause.ofRecords]))

theorem State.offerFinal_raised {r : Record} (h : RaisedFrom S u s.causes) (hc : Cause.ofRecords ⊆ S) :
    RaisedFrom S u (s.offerFinal r).causes := by
  unfold State.offerFinal
  split
  · exact State.enqueue_raised h hc
  · exact State.raise_raised h (hc (by simp [Cause.ofRecords]))

theorem State.finishDay_raised (h : RaisedFrom S u s.causes) (hc : Cause.ofRecords ⊆ S) :
    RaisedFrom S u s.finishDay.causes := by
  unfold State.finishDay
  split
  exacts [h, State.offerFinal_raised h hc]

theorem State.closeWindow_raised {w : WindowEntry} (h : RaisedFrom S u s.causes) (hskew : .clockSkew ∈ S)
    (hc : Cause.ofRecords ⊆ S) : RaisedFrom S u (s.closeWindow w).causes := by
  unfold State.closeWindow
  dsimp only
  split
  · exact State.finishDay_raised (State.raiseIf_raised h hskew) hc
  · exact State.raiseIf_raised h hskew

theorem State.graceExpiry_raised (h : RaisedFrom S u s.causes) (htx : .txFailure ∈ S) (hskew : .clockSkew ∈ S)
    (hc : Cause.ofRecords ⊆ S) : RaisedFrom S u s.graceExpiry.causes := by
  unfold State.graceExpiry
  dsimp only
  split
  · exact h
  · refine State.closeWindow_raised ?_ hskew hc
    exact State.settleAtExpiry_raised h htx

theorem State.cycle_raised {hs hr cs cr : Sensor} (h : RaisedFrom S u s.causes) (hc : Cause.ofCycle ⊆ S) :
    RaisedFrom S u (s.cycle hs hr cs cr).causes :=
  State.raiseIf_raised (State.raiseIf_raised h (hc (by simp [Cause.ofCycle]))) (hc (by simp [Cause.ofCycle]))

/-! ### Reception -/

theorem State.addressClash_raised (h : RaisedFrom S u s.causes) (hc : Cause.ofPeers ⊆ S) :
    RaisedFrom S u s.addressClash.causes :=
  RaisedFrom.raise h (hc (by simp [Cause.ofPeers]))

theorem State.handNotice_raised {n : PresenceNotice} (h : RaisedFrom S u s.causes) (hc : Cause.ofPeers ⊆ S) :
    RaisedFrom S u (s.handNotice n).causes :=
  State.raiseIf_raised h (hc (by simp [Cause.ofPeers]))

theorem State.handReport_raised {r : WindowReport} (h : RaisedFrom S u s.causes) (hc : Cause.ofPeers ⊆ S) :
    RaisedFrom S u (s.handReport r).causes := by
  unfold State.handReport
  dsimp only
  split
  · exact h
  · exact State.raiseIf_raised h (hc (by simp [Cause.ofPeers]))

theorem State.dispatchFromPeer_raised {k : Octet} {p : List Octet} (h : RaisedFrom S u s.causes)
    (hc : Cause.ofPeers ⊆ S) : RaisedFrom S u (s.dispatchFromPeer k p).causes := by
  unfold State.dispatchFromPeer
  dsimp only
  repeat' split
  exacts [h, h, State.addressClash_raised h hc, State.handNotice_raised h hc, State.addressClash_raised h hc,
    State.handReport_raised h hc]

theorem State.dispatch_raised {k : Octet} {p : List Octet} (h : RaisedFrom S u s.causes) (hc : Cause.ofPeers ⊆ S) :
    RaisedFrom S u (s.dispatch k p).causes := by
  unfold State.dispatch
  repeat' split
  · simpa using h
  · exact h
  · exact State.dispatchFromPeer_raised h hc

theorem State.judge_raised (h : RaisedFrom S u s.causes) (hc : Cause.ofPeers ⊆ S) :
    RaisedFrom S u s.judge.causes := by
  unfold State.judge
  split
  · exact State.dispatch_raised h hc
  · exact h

theorem State.judgeWaiting_raised (h : RaisedFrom S u s.causes) (hc : Cause.ofPeers ⊆ S) :
    RaisedFrom S u s.judgeWaiting.causes := by
  unfold State.judgeWaiting
  split
  exacts [State.judge_raised h hc, h]

theorem State.character_causes (s : State) (o : Octet) (b : Bool) :
    (s.character o b).causes = s.judgeWaiting.causes := by
  unfold State.character State.impliedStartBit
  dsimp only
  split <;> rfl

theorem State.character_raised {o : Octet} {b : Bool} (h : RaisedFrom S u s.causes) (hc : Cause.ofPeers ⊆ S) :
    RaisedFrom S u (s.character o b).causes :=
  s.character_causes o b ▸ State.judgeWaiting_raised h hc

theorem State.idleGap_raised (h : RaisedFrom S u s.causes) (hc : Cause.ofPeers ⊆ S) :
    RaisedFrom S u s.idleGap.causes := by
  have hcauses : s.idleGap.causes = s.judgeWaiting.causes := by
    unfold State.idleGap; dsimp only; split <;> rfl
  exact hcauses ▸ State.judgeWaiting_raised h hc

theorem State.readColliding_raised (h : RaisedFrom S u s.causes) (hc : Cause.ofPeers ⊆ S) :
    RaisedFrom S u s.readColliding.causes := by
  rcases s.readColliding_cases with hs | ⟨_, _, o, b, -, -, -, hs⟩ <;> rw [hs]
  exacts [h, State.character_raised (o := o) (b := b) h hc]

theorem State.readBackRest_raised (h : RaisedFrom S u s.causes) (hc : Cause.ofPeers ⊆ S) :
    RaisedFrom S u s.readBackRest.causes := by
  unfold State.readBackRest
  split
  · exact h
  · next hmode =>
    clear hmode
    generalize s.transmitter.octetsLeft = l
    induction l generalizing s with
    | nil => exact h
    | cons o l ih => exact ih (State.character_raised h hc)

/-! ### Attempts and supply -/

theorem State.collide_raised (h : RaisedFrom S u s.causes) (htx : .txFailure ∈ S) (hc : Cause.ofPeers ⊆ S) :
    RaisedFrom S u s.collide.causes := by
  refine State.chooseCurrent_raised (State.frameCollision_raised ?_ htx) htx
  exact State.readColliding_raised h hc

theorem State.succeed_raised (h : RaisedFrom S u s.causes) (htx : .txFailure ∈ S) (hc : Cause.ofPeers ⊆ S) :
    RaisedFrom S u s.succeed.causes := by
  refine State.chooseCurrent_raised ?_ htx
  simpa using State.readBackRest_raised h hc

theorem State.returnToMains_causes (s : State) : s.returnToMains.causes = s.causes.raise .supplyChange := by
  simp [State.returnToMains, State.raise]

theorem State.enterBackup_causes (s : State) : s.enterBackup.causes = s.causes.raise .supplyChange := by
  simp [State.enterBackup, State.raise]

theorem State.returnToMains_raised (h : RaisedFrom S u s.causes) (hc : .supplyChange ∈ S) :
    RaisedFrom S u s.returnToMains.causes :=
  s.returnToMains_causes ▸ h.raise hc

theorem State.leaveBackup_raised (h : RaisedFrom S u s.causes) (hc : .supplyChange ∈ S) :
    RaisedFrom S u s.leaveBackup.causes := by
  unfold State.leaveBackup
  dsimp only
  split
  · exact State.returnToMains_raised h hc
  · exact h

theorem State.enterBackup_raised (h : RaisedFrom S u s.causes) (hc : .supplyChange ∈ S) :
    RaisedFrom S u s.enterBackup.causes :=
  s.enterBackup_causes ▸ h.raise hc

end

end Sys2Proof.Machine

/-! SUPPORT. Which commands there are (R179, R181), and what every command but a full reset keeps of the whole machine: RSTN,
a commissioned station's configuration (R168, R177), the pending causes (R188) and the lifetime registers (R21). -/

namespace Sys2Proof.Machine

/-! ### Kinds of command -/

/-- A command is taken as a host command, taken as an event, tells of a pin or RESET, or is the term that stops. -/
theorem instr_kinds (c : Instr) :
    (∃ e, hostEffect c = some e) ∨ (∃ e, eventEffect c = some e) ∨
    c ∈ [.reset, .ssnFalling, .ssnRising, .rstnFalling, .rstnRising, .pfailnFalling, .pfailnRising] ∨
    ∃ octet, c = .unknownCommand octet ∧ namesCommand octet = true := by
  cases c
  case unknownCommand octet =>
    cases hnames : namesCommand octet
    · exact .inl ⟨_, by rw [hostEffect_unknownCommand, hnames]; rfl⟩
    · exact .inr (.inr (.inr ⟨octet, rfl, hnames⟩))
  case reset | ssnFalling | ssnRising | rstnFalling | rstnRising | pfailnFalling | pfailnRising =>
    exact .inr (.inr (.inl (by decide)))
  case writeItem | holidayAdd | holidayClear | readItem | setClock | trimClock | commission | quiet | speak | snapshot
      | fetchRecord | releaseRecord | clearQueue | readStatus | readCause | setEnables | readWindow | readPeer
      | readTotals | readLine | clearFailure | restartLine | resetConverter | lineTestMode | sendTest =>
    exact .inl ⟨_, rfl⟩
  all_goals exact .inr (.inl ⟨_, rfl⟩)

theorem exec_pfailnFalling (s : State) : exec .pfailnFalling s = execPfailnFalling s := rfl

theorem exec_pfailnRising (s : State) : exec .pfailnRising s = execPfailnRising s := rfl

theorem exec_ssnFalling (s : State) : exec .ssnFalling s = .next { s with port := s.port.falls s.rstnHigh } := rfl

theorem exec_ssnRising (s : State) : exec .ssnRising s = .next { s with port := { phase := .idle, response := [] } } := rfl

theorem exec_reset (s : State) :
    exec .reset s = .next (if s.rstnHigh && s.port.phase == .opened then s.fullReset else s) := rfl

theorem exec_rstnFalling (s : State) :
    exec .rstnFalling s = .next (if s.rstnHigh then { s.fullReset with rstnHigh := false } else s) := rfl

theorem exec_rstnRising (s : State) :
    exec .rstnRising s = .next (if s.rstnHigh then s else { s.fullReset with rstnHigh := true }) := rfl

/-- PFAILN falling while RSTN is high, by the supply mode. -/
theorem exec_pfailnFalling_of_high {s : State} (h : s.rstnHigh = true) (hp : s.pfailnHigh = true) :
    exec .pfailnFalling s =
      .next
        (if s.station.supplyMode = .backup then { s with pfailnHigh := false }
        else { s with pfailnHigh := false }.enterBackup) := by
  rw [exec_pfailnFalling]
  simp [execPfailnFalling, h, hp]

theorem exec_pfailnFalling_of_held {s : State} (h : s.rstnHigh = false) (hp : s.pfailnHigh = true) :
    exec .pfailnFalling s = .next { s with pfailnHigh := false }.followPin := by
  rw [exec_pfailnFalling]
  simp [execPfailnFalling, h, hp]

theorem exec_pfailnFalling_of_low {s : State} (hp : s.pfailnHigh = false) : exec .pfailnFalling s = .next s := by
  rw [exec_pfailnFalling]
  simp [execPfailnFalling, hp]

/-- PFAILN rising while RSTN is high, by the supply mode. -/
theorem exec_pfailnRising_of_high {s : State} (h : s.rstnHigh = true) (hp : s.pfailnHigh = false) :
    exec .pfailnRising s =
      .next
        (if s.station.supplyMode = .backup then { s with pfailnHigh := true }.leaveBackup
        else { s with pfailnHigh := true }) := by
  rw [exec_pfailnRising]
  simp [execPfailnRising, h, hp]

theorem exec_pfailnRising_of_held {s : State} (h : s.rstnHigh = false) (hp : s.pfailnHigh = false) :
    exec .pfailnRising s = .next { s with pfailnHigh := true }.followPin := by
  rw [exec_pfailnRising]
  simp [execPfailnRising, h, hp]

theorem exec_pfailnRising_of_pin {s : State} (hp : s.pfailnHigh = true) : exec .pfailnRising s = .next s := by
  rw [exec_pfailnRising]
  simp [execPfailnRising, hp]

/-! ### What every command but a full reset keeps -/

/-- The configuration of a commissioned station (R168, R177): it stays commissioned, with its items, calendar and digest. -/
structure SameService (s t : State) : Prop where
  state : t.station.state ≠ .unconfigured
  items : t.items = s.items
  calendar : t.calendar = s.calendar
  digest : t.station.digest = s.station.digest
  commissioned : t.station.commissioned = s.station.commissioned

theorem SameService.refl {s : State} (h : s.station.state ≠ .unconfigured) : SameService s s := ⟨h, rfl, rfl, rfl, rfl⟩

/-- Two states with the same lifetime registers (R21). -/
def SameLifetimes (s t : State) : Prop :=
  ∀ p, (t.meters.get p).lifetimeEnergy = (s.meters.get p).lifetimeEnergy ∧
    (t.meters.get p).lifetimeVolume = (s.meters.get p).lifetimeVolume

theorem SameLifetimes.of_eq {s t : State} (h : t.meters = s.meters) : SameLifetimes s t := by
  simp [SameLifetimes, h]

/-- What `t` has kept of `s` where no full reset came between. -/
structure Kept (s t : State) : Prop where
  rstnHigh : t.rstnHigh = s.rstnHigh
  service : s.station.state ≠ .unconfigured → SameService s t
  pending : ∀ x, flagOf s.causes.pending x = true → flagOf t.causes.pending x = true
  causes : CausesOk s → CausesOk t
  lifetimes : SameLifetimes s t

theorem Kept.refl (s : State) : Kept s s := ⟨rfl, .refl, fun _ h => h, id, .of_eq rfl⟩

/-- A change that leaves the configuration and the meters alone and does no more to the Cause Unit than raise causes. -/
theorem Kept.of_raised {s t : State} (hr : t.rstnHigh = s.rstnHigh)
    (hs : t.station.state = .unconfigured ↔ s.station.state = .unconfigured)
    (hi : t.items = s.items ∧ t.calendar = s.calendar)
    (hd : t.station.digest = s.station.digest ∧ t.station.commissioned = s.station.commissioned)
    (hc : CauseUnit.RaisedFrom Set.univ s.causes t.causes) (hm : t.meters = s.meters) : Kept s t :=
  ⟨hr, fun h => ⟨mt hs.mp h, hi.1, hi.2, hd.1, hd.2⟩, fun _ => hc.pending, hc.pulse, .of_eq hm⟩

/-- Before COMMISSION a command that raises nothing and leaves the meters alone keeps all there is to keep. -/
theorem Kept.of_unconfigured {s t : State} (h : s.station.state = .unconfigured) (hr : t.rstnHigh = s.rstnHigh)
    (hc : t.causes = s.causes) (hm : t.meters = s.meters) : Kept s t :=
  ⟨hr, fun hs => absurd h hs, fun _ hx => hc ▸ hx, by unfold CausesOk; rw [hc]; exact id, .of_eq hm⟩

section
variable (s : State)

theorem writeItemEffect_kept (hs : s.station.state = .unconfigured) (code : Octet) (value : BitVec 32) :
    Kept s (writeItemEffect code value s).1 := by
  unfold writeItemEffect
  split
  · exact .refl s
  · exact .of_unconfigured hs (by simp) (by simp) (by simp)

theorem setClockEffect_kept (hs : s.station.state = .unconfigured) (day : BitVec 16) (second : BitVec 24) :
    Kept s (setClockEffect day second s).1 := by
  unfold setClockEffect
  split
  · exact .refl s
  · exact .of_unconfigured hs rfl rfl rfl

theorem trimClockEffect_kept (seconds : BitVec 8) : Kept s (trimClockEffect seconds s).1 := by
  unfold trimClockEffect
  split
  · exact .refl s
  · exact .of_raised rfl .rfl ⟨rfl, rfl⟩ ⟨rfl, rfl⟩ .refl rfl

theorem commissionEffect_kept (hs : s.station.state = .unconfigured) : Kept s (commissionEffect s).1 := by
  unfold commissionEffect
  split
  · have hraised : CauseUnit.RaisedFrom Set.univ s.causes
        (s.commissionBlocks.commissionLine.requestNotice .joining).causes :=
      State.requestNotice_raised (.of_eq (by simp)) (Set.mem_univ _)
    refine ⟨by simp, fun h => absurd hs h, fun _ => hraised.pending, hraised.pulse, ?_⟩
    intro p
    cases p <;> simp [State.commissionBlocks, CircuitMeter.commission, PerPlant.get]
  · exact .refl s

/-- QUIET and SPEAK: a commissioned state entered, with its notice requested. -/
theorem enter_requestNotice_kept {x : StationState} (hx : x ≠ .unconfigured) (a : NoticeState) :
    Kept s ((s.enter x).requestNotice a) := by
  have hraised : CauseUnit.RaisedFrom Set.univ s.causes ((s.enter x).requestNotice a).causes :=
    State.requestNotice_raised .refl (Set.mem_univ _)
  refine ⟨by simp, fun _ => ⟨?_, by simp, by simp, by simp [State.enter], by simp [State.enter]⟩,
    fun _ => hraised.pending, hraised.pulse, .of_eq (by simp)⟩
  simpa [State.enter] using hx

theorem quietEffect_kept : Kept s (quietEffect s).1 := by
  unfold quietEffect
  split
  · exact .refl s
  · exact enter_requestNotice_kept s (by decide) _

theorem speakEffect_kept : Kept s (speakEffect s).1 := by
  unfold speakEffect
  split
  · exact enter_requestNotice_kept s (by decide) _
  · exact .refl s

/-- R100: a record enters the queue of a station `u` that has kept all of `s`. -/
theorem enqueue_kept {u : State} (h : Kept s u) (r : Record) : Kept s (u.enqueue r) := by
  have hraised : CauseUnit.RaisedFrom Set.univ u.causes (u.enqueue r).causes :=
    State.enqueue_raised .refl (Set.subset_univ _)
  refine ⟨by simpa using h.rstnHigh, fun hs => ?_, fun x hx => hraised.pending (h.pending x hx),
    fun hs => hraised.pulse (h.causes hs), by simpa [SameLifetimes] using h.lifetimes⟩
  have k := h.service hs
  exact ⟨by simpa using k.state, by simpa using k.items, by simpa using k.calendar, by simpa using k.digest,
    by simpa using k.commissioned⟩

theorem snapshotEffect_kept : Kept s (snapshotEffect s).1 := by
  unfold snapshotEffect
  repeat' split
  exacts [.refl s, enqueue_kept s (.refl s) _, .refl s]

theorem releaseEffect_kept : Kept s (releaseEffect s).1 := by
  have hrecords (q : RecordQueue) : Kept s { s with records := q } :=
    .of_raised rfl .rfl ⟨rfl, rfl⟩ ⟨rfl, rfl⟩ .refl rfl
  unfold releaseEffect
  repeat' split
  exacts [.refl s, hrecords _, enqueue_kept s (hrecords _) _]

/-- R191: the controls end a pulse that they do not suit. -/
theorem setControls_pulse (u : CauseUnit) (enables : BitVec 16) (master : Octet) (mode : IrqMode)
    (h : (u.setControls enables master mode).pulse = true) :
    (u.setControls enables master mode).mode = .pulse ∧ (u.setControls enables master mode).master = true := by
  simp only [CauseUnit.setControls, Bool.and_eq_true, beq_iff_eq] at h ⊢
  exact ⟨h.1.2, h.2⟩

theorem setEnablesEffect_kept (enables : BitVec 16) (master mode : Octet) :
    Kept s (setEnablesEffect enables master mode s).1 := by
  unfold setEnablesEffect
  split
  · exact .refl s
  · exact ⟨rfl, fun h => ⟨h, rfl, rfl, rfl, rfl⟩, fun _ h => h, fun _ => setControls_pulse _ _ _ _, .of_eq rfl⟩

theorem restartLineEffect_kept : Kept s (restartLineEffect s).1 :=
  .of_raised (by simp [restartLineEffect]) (by simp [restartLineEffect]) (by simp [restartLineEffect])
    (by simp [restartLineEffect]) (.of_eq (by simp [restartLineEffect])) (by simp [restartLineEffect])

theorem lineTestModeEffect_kept (hs : s.station.state = .unconfigured) (mode : Octet) :
    Kept s (lineTestModeEffect mode s).1 := by
  unfold lineTestModeEffect
  repeat' split
  · exact .refl s
  · exact .refl s
  · exact .of_unconfigured hs (by simp) (by simp) (by simp)

theorem sendTestEffect_kept : Kept s (sendTestEffect s).1 := by
  unfold sendTestEffect
  split
  · exact .refl s
  · exact .of_raised (by simp) (by simp) (by simp) (by simp) (State.queueReport_raised .refl (Set.mem_univ _)) (by simp)

/-- R21, R168, R177, R188: what a host command other than READ CAUSE keeps. -/
theorem hostEffect_kept {c : Instr} {e : State → State × List Octet} (h : hostEffect c = some e) (hc : c ≠ .readCause) :
    Kept s (e s).1 := by
  cases c
  case readCause => exact absurd rfl hc
  case unknownCommand octet =>
    rw [hostEffect_unknownCommand] at h
    split at h <;> cases h
    exact .refl s
  all_goals cases h
  case writeItem code value => exact unconfiguredOnly_keeps (.refl s) fun hs => writeItemEffect_kept s hs code value
  case holidayAdd | holidayClear =>
    exact unconfiguredOnly_keeps (.refl s) fun hs => .of_unconfigured hs rfl rfl rfl
  case readItem => unfold readItemEffect; split <;> exact .refl s
  case setClock day second => exact unconfiguredOnly_keeps (.refl s) fun hs => setClockEffect_kept s hs day second
  case trimClock seconds => exact commissionedOnly_keeps (.refl s) fun _ => trimClockEffect_kept s seconds
  case commission => exact unconfiguredOnly_keeps (.refl s) (commissionEffect_kept s)
  case quiet => exact afterJoiningOnly_keeps (.refl s) fun _ _ => quietEffect_kept s
  case speak => exact commissionedOnly_keeps (.refl s) fun _ => speakEffect_kept s
  case snapshot => exact commissionedOnly_keeps (.refl s) fun _ => snapshotEffect_kept s
  case fetchRecord => unfold fetchEffect; split <;> exact .refl s
  case releaseRecord => exact releaseEffect_kept s
  case clearQueue => exact .of_raised rfl .rfl ⟨rfl, rfl⟩ ⟨rfl, rfl⟩ .refl rfl
  case readStatus | readTotals | readLine => exact .refl s
  case setEnables enables master mode => exact setEnablesEffect_kept s enables master mode
  case readWindow => unfold readWindowEffect; repeat' split
                     all_goals exact .refl s
  case readPeer => unfold readPeerEffect; repeat' split
                   all_goals exact .refl s
  case clearFailure => exact .of_raised rfl .rfl ⟨rfl, rfl⟩ ⟨rfl, rfl⟩ .refl rfl
  case restartLine => exact commissionedOnly_keeps (.refl s) fun _ => restartLineEffect_kept s
  case resetConverter =>
    exact commissionedOnly_keeps (.refl s) fun _ => .of_raised rfl .rfl ⟨rfl, rfl⟩ ⟨rfl, rfl⟩ .refl rfl
  case lineTestMode mode => exact unconfiguredOnly_keeps (.refl s) fun hs => lineTestModeEffect_kept s hs mode
  case sendTest => exact unconfiguredOnly_keeps (.refl s) fun _ => sendTestEffect_kept s

theorem countPulse_lifetimes (m : CircuitMeter) :
    m.countPulse.lifetimeEnergy = m.lifetimeEnergy ∧ m.countPulse.lifetimeVolume = m.lifetimeVolume := by
  unfold CircuitMeter.countPulse
  split <;> simp

theorem changeMeter_get (f : CircuitMeter → CircuitMeter) (p q : Plant) (x : PerPlant CircuitMeter) :
    (changeMeter f p x).get q = if p = q then f (x.get q) else x.get q := by
  cases p <;> cases q <;> rfl

theorem flowPulse_kept (c : Plant) : Kept s { s with meters := changeMeter CircuitMeter.countPulse c s.meters } := by
  refine ⟨rfl, fun h => ⟨h, rfl, rfl, rfl, rfl⟩, fun _ h => h, id, fun p => ?_⟩
  rw [changeMeter_get]
  split
  · exact countPulse_lifetimes _
  · exact ⟨rfl, rfl⟩

theorem cycle_service (hs hr cs cr : Sensor) (h : s.station.state ≠ .unconfigured) :
    SameService s (s.cycle hs hr cs cr) := by
  constructor <;> simp [State.cycle, h]

theorem startBit_kept : Kept s s.startBit := .of_raised rfl .rfl ⟨rfl, rfl⟩ ⟨rfl, rfl⟩ .refl rfl

theorem judgeWaiting_kept : Kept s s.judgeWaiting :=
  .of_raised (by simp) (by simp) (by simp) (by simp) (State.judgeWaiting_raised .refl (Set.subset_univ _)) (by simp)

/-- R21, R168, R177, R188: what an event other than a cycle event keeps. -/
theorem eventEffect_kept {c : Instr} {e : State → State} (h : eventEffect c = some e)
    (hc : ∀ hs hr cs cr, c ≠ .cycleEvent hs hr cs cr) : Kept s (e s) := by
  cases c
  case cycleEvent => exact absurd rfl (hc _ _ _ _)
  all_goals cases h
  case flowPulse c => exact flowPulse_kept s c
  case frameReceived => exact judgeWaiting_kept s
  case slewStep => exact .of_raised rfl .rfl ⟨rfl, rfl⟩ ⟨rfl, rfl⟩ .refl rfl
  case irqnPulseEnd =>
    exact ⟨rfl, fun h => ⟨h, rfl, rfl, rfl, rfl⟩, fun _ h => h, (fun _ hpulse => by cases hpulse), .of_eq rfl⟩
  all_goals beta_reduce
  all_goals split
  case h_1 =>
    exact .of_raised (by simp) (by simp) (by simp) (by simp) (State.character_raised .refl (Set.subset_univ _)) (by simp)
  case recoveryEnd.refl.isTrue =>
    exact .of_raised (by simp) (by simp [State.returnToMains]) (by simp) (by simp [State.returnToMains])
      (State.returnToMains_raised .refl (Set.mem_univ _)) (by simp)
  case windowBoundary.refl.isTrue =>
    exact .of_raised (by simp) (by simp) (by simp) (by simp) (State.boundary_raised .refl (Set.mem_univ _)) (by simp)
  case graceExpiry.refl.isTrue =>
    exact .of_raised (by simp) (by simp) (by simp) (by simp)
      (State.graceExpiry_raised .refl (Set.mem_univ _) (Set.mem_univ _) (Set.subset_univ _)) (by simp)
  case idleGap.refl.isTrue =>
    exact .of_raised (by simp) (by simp) (by simp) (by simp) (State.idleGap_raised .refl (Set.subset_univ _)) (by simp)
  case backoffExpiry.refl.isTrue =>
    exact .of_raised rfl .rfl ⟨rfl, rfl⟩ ⟨rfl, rfl⟩ .refl rfl
  case txCollision.refl.isTrue =>
    exact .of_raised (by simp) (by simp) (by simp) (by simp)
      (State.collide_raised .refl (Set.mem_univ _) (Set.subset_univ _)) (by simp)
  case txSuccess.refl.isTrue =>
    exact .of_raised (by simp) (by simp) (by simp) (by simp)
      (State.succeed_raised .refl (Set.mem_univ _) (Set.subset_univ _)) (by simp)
  case lineStuck.refl.isTrue =>
    exact .of_raised (by simp) (by simp) (by simp) (by simp) (State.reportStuck_raised .refl (Set.mem_univ _)) (by simp)
  case startBit.refl.isTrue => exact startBit_kept s
  case countedSecondEnd.refl.isTrue | converterRestartEnd.refl.isTrue | dayBoundary.refl.isTrue =>
    exact .of_raised rfl .rfl ⟨rfl, rfl⟩ ⟨rfl, rfl⟩ .refl rfl
  all_goals exact .refl s

theorem enterBackup_station :
    s.enterBackup.station =
      { s.station with
        state := if s.transmitter.announcesQuiet = true ∧ s.station.state = .quieting then .quiet else s.station.state
        supplyMode := .backup, recoveryCount := 0 } := by
  simp only [State.enterBackup, State.raise_station, State.quietNoticeDropped, State.withdrawExpired_frame]
  cases s.transmitter.announcesQuiet <;> simp [State.endOfQuietNotice_station]

theorem enterBackup_kept : Kept s s.enterBackup := by
  refine .of_raised (by simp) ?_ (by simp) (by simp [enterBackup_station])
    (State.enterBackup_raised .refl (Set.mem_univ _)) (by simp)
  rw [enterBackup_station]
  by_cases h : s.transmitter.announcesQuiet = true ∧ s.station.state = .quieting <;> simp [h]

theorem leaveBackup_kept : Kept s s.leaveBackup := by
  have hstation : s.leaveBackup.station.state = s.station.state ∧ s.leaveBackup.station.digest = s.station.digest ∧
      s.leaveBackup.station.commissioned = s.station.commissioned := by
    unfold State.leaveBackup
    dsimp only
    split <;> simp [State.returnToMains]
  exact .of_raised (by simp) (by rw [hstation.1]) (by simp) hstation.2
    (State.leaveBackup_raised .refl (Set.mem_univ _)) (by simp)

/-- What a change of the PFAILN pin keeps. -/
theorem with_pfailnHigh_kept {t : State} (b : Bool) (h : Kept { s with pfailnHigh := b } t) : Kept s t :=
  ⟨h.rstnHigh, fun hs => have k := h.service hs; ⟨k.state, k.items, k.calendar, k.digest, k.commissioned⟩, h.pending,
    h.causes, h.lifetimes⟩

end

/-- What holds of every kept state and survives the port holds after a taken host command. -/
theorem Kept.with_port {s t : State} (h : Kept s t) (p : Port) : Kept s { t with port := p } :=
  ⟨h.rstnHigh, fun hs => have k := h.service hs; ⟨k.state, k.items, k.calendar, k.digest, k.commissioned⟩, h.pending,
    h.causes, h.lifetimes⟩

theorem followPin_kept (s : State) : Kept s s.followPin :=
  ⟨rfl, fun hs => ⟨hs, rfl, rfl, rfl, rfl⟩, fun _ h => h, id, .of_eq rfl⟩

theorem pfailn_kept {c : Instr} {s t : State} (hc : c = .pfailnFalling ∨ c = .pfailnRising) (h : exec c s = .next t) :
    Kept s t := by
  have hs := Kept.refl s
  rcases hc with rfl | rfl
  · rw [exec_pfailnFalling] at h
    simp only [execPfailnFalling, Host.Outcome.next.injEq] at h
    subst h
    repeat' split
    exacts [with_pfailnHigh_kept s _ (followPin_kept _), ⟨rfl, fun h => ⟨h, rfl, rfl, rfl, rfl⟩, fun _ h => h, id, .of_eq rfl⟩,
      with_pfailnHigh_kept s _ (enterBackup_kept _), hs]
  · rw [exec_pfailnRising] at h
    simp only [execPfailnRising, Host.Outcome.next.injEq] at h
    subst h
    repeat' split
    exacts [hs, with_pfailnHigh_kept s _ (followPin_kept _), with_pfailnHigh_kept s _ (leaveBackup_kept _),
      ⟨rfl, fun h => ⟨h, rfl, rfl, rfl, rfl⟩, fun _ h => h, id, .of_eq rfl⟩]

/-- Every command but a full reset, READ CAUSE and a cycle event. -/
theorem exec_kept {c : Instr} {s t : State} (h : exec c s = .next t)
    (hreset : c ≠ .reset ∧ c ≠ .rstnFalling ∧ c ≠ .rstnRising) (hread : c ≠ .readCause)
    (hcycle : ∀ hs hr cs cr, c ≠ .cycleEvent hs hr cs cr) : Kept s t := by
  rcases instr_kinds c with ⟨e, he⟩ | ⟨e, he⟩ | hpin | ⟨octet, rfl, hnames⟩
  · rw [exec_of_hostEffect he] at h
    rcases takeCommand_next h with rfl | ⟨-, -, rfl⟩
    exacts [.refl t, (hostEffect_kept s he hread).with_port _]
  · rw [exec_of_eventEffect he] at h
    rcases takeEvent_next h with ⟨-, rfl⟩ | ⟨-, rfl⟩
    exacts [.refl t, eventEffect_kept s he hcycle]
  · simp only [List.mem_cons, List.not_mem_nil, or_false] at hpin
    rcases hpin with rfl | rfl | rfl | rfl | rfl | hpin
    · exact absurd rfl hreset.1
    · rw [exec_ssnFalling] at h; cases h; exact (Kept.refl s).with_port _
    · rw [exec_ssnRising] at h; cases h; exact (Kept.refl s).with_port _
    · exact absurd rfl hreset.2.1
    · exact absurd rfl hreset.2.2
    · exact pfailn_kept hpin h
  · rw [exec_unknownCommand, if_pos hnames] at h; cases h

end Sys2Proof.Machine

/-! SUPPORT. RSTN low holds the station at its full-reset values (R179), and what a full reset leaves of the statements about
the whole machine. -/

namespace Sys2Proof.Machine

/-! ### The full reset (R179, R180) -/

theorem State.fullReset_idem (s : State) : s.fullReset.fullReset = s.fullReset := by
  cases hp : s.port.phase <;> simp [State.fullReset, hp]

/-- R181: while RSTN is low SSN moves a held port between waiting for SSN to fall and waiting for it to rise. -/
theorem HeldAtReset.with_port {s : State} (h : HeldAtReset s) {phase : PortPhase}
    (hp : phase = .idle ∨ phase = .ignored) : HeldAtReset { s with port := ⟨phase, []⟩ } := by
  intro hlow
  have hs : { s.fullReset with port := ⟨phase, []⟩ }.fullReset = { s.fullReset with port := ⟨phase, []⟩ } := by
    rcases hp with rfl | rfl <;> rfl
  rwa [h hlow] at hs

/-- R164, R179: while RSTN is low a change of PFAILN is a full reset with the pin as it now stands. -/
theorem State.followPin_of_held {s : State} (hlow : s.rstnHigh = false) (h : HeldAtReset s) (b : Bool) :
    { s with pfailnHigh := b }.followPin = { s with pfailnHigh := b }.fullReset := by
  have hs : { s.fullReset with pfailnHigh := b }.followPin = { s.fullReset with pfailnHigh := b }.fullReset := by
    cases hp : s.port.phase <;> simp [State.fullReset, State.followPin, Station.reset, hp]
  rwa [h hlow] at hs

theorem heldAtReset_of_high {s : State} (h : s.rstnHigh = true) : HeldAtReset s := fun hlow => by simp [h] at hlow

theorem heldAtReset_fullReset (s : State) : HeldAtReset s.fullReset := fun _ => s.fullReset_idem

/-- A full reset that begins with RSTN falling holds. -/
theorem heldAtReset_rstnFalling (s : State) : HeldAtReset { s.fullReset with rstnHigh := false } := fun _ => by
  cases hp : s.port.phase <;> simp [State.fullReset, hp]

theorem HeldAtReset.with_pending {s : State} (h : HeldAtReset s) (q : List Instr) :
    HeldAtReset { s with pending := q } := fun hlow =>
  congrArg (fun u : State => { u with pending := q }) (h hlow)

theorem State.tick_of_low {s : State} (h : s.rstnHigh = false) : s.tick = s := by
  simp [State.tick, State.characterTimePasses, h]

/-- R179: with RSTN low no host command and no event is taken; the pins move the port, the supply mode and the reset. -/
theorem exec_heldAtReset_of_low {c : Instr} {s t : State} (h : HeldAtReset s) (hlow : s.rstnHigh = false)
    (hexec : exec c s = .next t) : HeldAtReset t := by
  rcases instr_kinds c with ⟨e, he⟩ | ⟨e, he⟩ | hpin | ⟨octet, rfl, hnames⟩
  · rw [exec_of_hostEffect he, takeCommand_of_not_opened (by simp [hlow])] at hexec
    cases hexec; exact h
  · rw [exec_of_eventEffect he] at hexec
    rcases takeEvent_next hexec with ⟨-, rfl⟩ | ⟨hhigh, -⟩
    exacts [h, by simp [hlow] at hhigh]
  · simp only [List.mem_cons, List.not_mem_nil, or_false] at hpin
    rcases hpin with rfl | rfl | rfl | rfl | rfl | rfl | rfl
    · simp only [exec_reset, hlow, Bool.false_and, Bool.false_eq_true, if_false, Host.Outcome.next.injEq] at hexec
      exact hexec ▸ h
    · have hport : s.port.falls s.rstnHigh = if s.port.phase = .idle then ⟨.ignored, []⟩ else s.port := by
        simp [Port.falls, hlow]
      rw [exec_ssnFalling, hport] at hexec
      cases hexec
      split
      exacts [h.with_port (.inr rfl), h]
    · rw [exec_ssnRising] at hexec
      cases hexec; exact h.with_port (.inl rfl)
    · simp only [exec_rstnFalling, hlow, Bool.false_eq_true, if_false, Host.Outcome.next.injEq] at hexec
      exact hexec ▸ h
    · simp only [exec_rstnRising, hlow, Bool.false_eq_true, if_false, Host.Outcome.next.injEq] at hexec
      exact hexec ▸ heldAtReset_of_high rfl
    · cases hp : s.pfailnHigh
      · rw [exec_pfailnFalling_of_low hp] at hexec; cases hexec; exact h
      · rw [exec_pfailnFalling_of_held hlow hp, State.followPin_of_held hlow h] at hexec
        cases hexec; exact heldAtReset_fullReset _
    · cases hp : s.pfailnHigh
      · rw [exec_pfailnRising_of_held hlow hp, State.followPin_of_held hlow h] at hexec
        cases hexec; exact heldAtReset_fullReset _
      · rw [exec_pfailnRising_of_pin hp] at hexec; cases hexec; exact h
  · rw [exec_unknownCommand, if_pos hnames] at hexec; cases hexec

theorem exec_cycleEvent (hs hr cs cr : Sensor) (s : State) :
    exec (.cycleEvent hs hr cs cr) s =
      takeEvent (fun s => if s.timebase.due.cycleEvent then s.cycle hs hr cs cr else s) s := rfl

/-- R179: RSTN is a pin: only RSTN_FALLING and RSTN_RISING move it. -/
theorem exec_rstnHigh {c : Instr} {s t : State} (h : exec c s = .next t) (hf : c ≠ .rstnFalling) (hr : c ≠ .rstnRising) :
    t.rstnHigh = s.rstnHigh := by
  by_cases hread : c = .readCause
  · subst hread
    rw [exec_readCause] at h
    rcases takeCommand_next h with rfl | ⟨-, -, rfl⟩ <;> rfl
  by_cases hreset : c = .reset
  · subst hreset
    simp only [exec_reset, Host.Outcome.next.injEq] at h
    subst h
    split <;> rfl
  by_cases hcycle : ∃ a b d e, c = .cycleEvent a b d e
  · obtain ⟨a, b, d, e, rfl⟩ := hcycle
    rw [exec_cycleEvent] at h
    rcases takeEvent_next h with ⟨-, rfl⟩ | ⟨-, rfl⟩
    · rfl
    · split <;> simp
  · exact (exec_kept h ⟨hreset, hf, hr⟩ hread fun a b d e hc => hcycle ⟨a, b, d, e, hc⟩).rstnHigh

/-! ### The settled statements -/

/-- Settles O53: with RSTN low only the pins act (`exec_heldAtReset_of_low`), and RSTN falls with a full reset alone. -/
theorem stepKeepsHeldAtReset : Obligations.StepKeepsHeldAtReset := by
  unfold Obligations.StepKeepsHeldAtReset
  intro s t hheld hstep
  unfold step at hstep
  split at hstep
  next c rest _ =>
    have hqueue := hheld.with_pending rest
    cases hrstn : s.rstnHigh
    · exact exec_heldAtReset_of_low hqueue hrstn hstep
    · by_cases hfall : c = .rstnFalling
      · subst hfall
        simp only [exec_rstnFalling, hrstn, if_true, Host.Outcome.next.injEq] at hstep
        exact hstep ▸ heldAtReset_rstnFalling _
      by_cases hrise : c = .rstnRising
      · subst hrise
        simp only [exec_rstnRising, hrstn, if_true, Host.Outcome.next.injEq] at hstep
        exact hstep ▸ heldAtReset_of_high rfl
      · exact heldAtReset_of_high ((exec_rstnHigh hstep hfall hrise).trans hrstn)
  next =>
    cases hstep
    cases hrstn : s.rstnHigh
    · rwa [State.tick_of_low hrstn]
    · exact heldAtReset_of_high (by simpa using hrstn)

/-- Settles O52: every command but a full reset, READ CAUSE and a cycle event keeps configuration, causes and lifetime registers
(`exec_kept`); READ CAUSE touches the Cause Unit only, and a cycle event the meters. -/
theorem onlyTheseCommands : Obligations.OnlyTheseCommands := by
  unfold Obligations.OnlyTheseCommands
  intro c s t h hreset hfall hrise
  by_cases hread : c = .readCause
  · subst hread
    rw [exec_readCause] at h
    rcases takeCommand_next h with rfl | ⟨-, -, rfl⟩
    · exact ⟨fun hs => ⟨hs, rfl, rfl, rfl, rfl⟩, fun _ _ hx => hx, fun _ _ => ⟨rfl, rfl⟩⟩
    · exact ⟨fun hs => ⟨hs, rfl, rfl, rfl, rfl⟩, fun hne => absurd rfl hne, fun _ _ => ⟨rfl, rfl⟩⟩
  by_cases hcycle : ∃ a b d e, c = .cycleEvent a b d e
  · obtain ⟨a, b, d, e, rfl⟩ := hcycle
    rw [exec_cycleEvent] at h
    refine ⟨fun hs => ?_, fun _ x hx => ?_, fun hne => absurd rfl (hne a b d e)⟩
    · have hservice : SameService s t := by
        rcases takeEvent_next h with ⟨-, rfl⟩ | ⟨-, rfl⟩
        · exact .refl hs
        · split
          exacts [cycle_service s a b d e hs, .refl hs]
      exact ⟨hservice.state, hservice.items, hservice.calendar, hservice.digest, hservice.commissioned⟩
    · have hraised : CauseUnit.RaisedFrom Set.univ s.causes t.causes := by
        rcases takeEvent_next h with ⟨-, rfl⟩ | ⟨-, rfl⟩
        · exact .refl
        · split
          exacts [State.cycle_raised .refl (Set.subset_univ _), .refl]
      exact hraised.pending hx
  · have k := exec_kept h ⟨hreset, hfall, hrise⟩ hread fun a b d e hc => hcycle ⟨a, b, d, e, hc⟩
    refine ⟨fun hs => ?_, fun _ => k.pending, fun _ => k.lifetimes⟩
    have hservice := k.service hs
    exact ⟨hservice.state, hservice.items, hservice.calendar, hservice.digest, hservice.commissioned⟩

end Sys2Proof.Machine

/-! SUPPORT. The relations of station state, supply mode and line-test mode (R26, R90, R131, R164, R166, R173) through every
command. -/

namespace Sys2Proof.Machine

/-! ### What `StationOk` depends on -/

/-- Two states that agree in all that `StationOk` speaks of, but for the supply. -/
structure SameStation (s t : State) : Prop where
  state : t.station.state = .unconfigured ↔ s.station.state = .unconfigured
  commissioned : t.station.commissioned = s.station.commissioned
  boundaryOn : t.timebase.boundaryOn = s.timebase.boundaryOn
  complete : t.complete = s.complete
  current : t.contexts.current.isSome = s.contexts.current.isSome
  testMode : t.transmitter.testMode = s.transmitter.testMode

/-- The supply mode, the recovery count and the pin that gives them (R164, R173). -/
structure SameSupply (s t : State) : Prop where
  supplyMode : t.station.supplyMode = s.station.supplyMode
  recoveryCount : t.station.recoveryCount = s.station.recoveryCount
  pfailnHigh : t.pfailnHigh = s.pfailnHigh

/-- R173: the supply may change to a mode that suits the pin and the station state. -/
theorem StationOk.of_supply {s t : State} (h : StationOk s) (k : SameStation s t)
    (recovering : t.station.supplyMode = .recovering → s.station.state ≠ .unconfigured)
    (backup : t.station.supplyMode = .backup ↔ t.pfailnHigh = false)
    (recovery : t.station.recoveryCount ≤ 2 ∧ (t.station.supplyMode ≠ .recovering → t.station.recoveryCount = 0)) :
    StationOk t where
  flag := by rw [k.commissioned, Ne, k.state]; exact h.flag
  boundary := by rw [k.boundaryOn, k.commissioned]; exact h.boundary
  required := by rw [k.commissioned, k.complete]; exact h.required
  current := by rw [k.current, k.commissioned]; exact h.current
  testMode := by rw [k.testMode, k.state]; exact h.testMode
  recovering := by rw [Ne, k.state]; exact recovering
  backup := backup
  recovery := recovery

theorem StationOk.of_same {s t : State} (h : StationOk s) (k : SameStation s t) (x : SameSupply s t) : StationOk t :=
  h.of_supply k (by rw [x.supplyMode]; exact h.recovering) (by rw [x.supplyMode, x.pfailnHigh]; exact h.backup)
    (by rw [x.supplyMode, x.recoveryCount]; exact h.recovery)

/-- Before COMMISSION the items, the clock and the line may change freely. -/
theorem StationOk.of_unconfigured {s t : State} (h : StationOk s) (hs : s.station.state = .unconfigured)
    (hst : t.station = s.station) (hb : t.timebase.boundaryOn = s.timebase.boundaryOn) (hc : t.contexts = s.contexts)
    (hp : t.pfailnHigh = s.pfailnHigh) : StationOk t where
  flag := by rw [hst]; exact h.flag
  boundary := by rw [hb, hst]; exact h.boundary
  required := fun hcomm => absurd hs (h.flag.mp (hst ▸ hcomm))
  current := by rw [hc, hst]; exact h.current
  testMode := fun _ => hst ▸ hs
  recovering := by rw [hst]; exact h.recovering
  backup := by rw [hst, hp]; exact h.backup
  recovery := by rw [hst]; exact h.recovery

theorem StationOk.with_pending {s : State} (h : StationOk s) (q : List Instr) : StationOk { s with pending := q } :=
  h.of_same ⟨.rfl, rfl, rfl, rfl, rfl, rfl⟩ ⟨rfl, rfl, rfl⟩

theorem stationOk_fullReset (s : State) (r : Bool) : StationOk { s.fullReset with rstnHigh := r } := by
  constructor <;> cases hp : s.pfailnHigh <;>
    simp [State.fullReset, State.reset, Station.reset, supplyOfPin, Timebase.reset, Contexts.reset, Transmitter.reset, hp]

/-! ### The Timebase through its own operations -/

@[simp] theorem Timebase.countSlew_frame (t : Timebase) :
    t.countSlew.clockValid = t.clockValid ∧ t.countSlew.secondOfDay = t.secondOfDay ∧ t.countSlew.day = t.day ∧
    t.countSlew.secondFraction = t.secondFraction ∧ t.countSlew.secondLength = t.secondLength ∧
    t.countSlew.cyclePhase = t.cyclePhase ∧ t.countSlew.secondsInWindow = t.secondsInWindow ∧
    t.countSlew.windowInDay = t.windowInDay ∧ t.countSlew.graceArmed = t.graceArmed ∧
    t.countSlew.slewRemaining = t.slewRemaining ∧ t.countSlew.boundaryOn = t.boundaryOn ∧
    t.countSlew.due.cycleEvent = t.due.cycleEvent ∧ t.countSlew.due.windowBoundary = t.due.windowBoundary ∧
    t.countSlew.due.dayBoundary = t.due.dayBoundary ∧ t.countSlew.due.graceExpiry = t.due.graceExpiry := by
  unfold Timebase.countSlew
  repeat' split
  all_goals simp

@[simp] theorem Timebase.advanceSecond_frame (t : Timebase) :
    t.advanceSecond.clockValid = t.clockValid ∧ t.advanceSecond.secondLength = t.secondLength ∧
    t.advanceSecond.cyclePhase = t.cyclePhase ∧ t.advanceSecond.secondsInWindow = t.secondsInWindow ∧
    t.advanceSecond.windowInDay = t.windowInDay ∧ t.advanceSecond.graceArmed = t.graceArmed ∧
    t.advanceSecond.slewRemaining = t.slewRemaining ∧ t.advanceSecond.slewCount = t.slewCount ∧
    t.advanceSecond.boundaryOn = t.boundaryOn ∧ t.advanceSecond.due = t.due := by
  unfold Timebase.advanceSecond
  split <;> simp

@[simp] theorem Timebase.advanceCycle_frame (t : Timebase) :
    t.advanceCycle.clockValid = t.clockValid ∧ t.advanceCycle.secondOfDay = t.secondOfDay ∧
    t.advanceCycle.day = t.day ∧ t.advanceCycle.secondFraction = t.secondFraction ∧
    t.advanceCycle.secondLength = t.secondLength ∧ t.advanceCycle.secondsInWindow = t.secondsInWindow ∧
    t.advanceCycle.windowInDay = t.windowInDay ∧ t.advanceCycle.graceArmed = t.graceArmed ∧
    t.advanceCycle.slewRemaining = t.slewRemaining ∧ t.advanceCycle.slewCount = t.slewCount ∧
    t.advanceCycle.boundaryOn = t.boundaryOn ∧ t.advanceCycle.due.slewStep = t.due.slewStep ∧
    t.advanceCycle.due.windowBoundary = t.due.windowBoundary ∧ t.advanceCycle.due.dayBoundary = t.due.dayBoundary ∧
    t.advanceCycle.due.graceExpiry = t.due.graceExpiry := by
  unfold Timebase.advanceCycle
  split <;> simp

@[simp] theorem Timebase.advanceWindow_frame (t : Timebase) (l : WindowLength) (grace : Nat) :
    (t.advanceWindow l grace).clockValid = t.clockValid ∧ (t.advanceWindow l grace).secondOfDay = t.secondOfDay ∧
    (t.advanceWindow l grace).day = t.day ∧ (t.advanceWindow l grace).secondFraction = t.secondFraction ∧
    (t.advanceWindow l grace).secondLength = t.secondLength ∧ (t.advanceWindow l grace).cyclePhase = t.cyclePhase ∧
    (t.advanceWindow l grace).graceArmed = t.graceArmed ∧ (t.advanceWindow l grace).slewRemaining = t.slewRemaining ∧
    (t.advanceWindow l grace).slewCount = t.slewCount ∧ (t.advanceWindow l grace).boundaryOn = t.boundaryOn ∧
    (t.advanceWindow l grace).due.slewStep = t.due.slewStep ∧
    (t.advanceWindow l grace).due.cycleEvent = t.due.cycleEvent := by
  unfold Timebase.advanceWindow Timebase.issueBoundary
  repeat' split
  all_goals simp

@[simp] theorem Timebase.endSecond_settings (t : Timebase) (l : WindowLength) (grace : Nat) :
    (t.endSecond l grace).clockValid = t.clockValid ∧ (t.endSecond l grace).boundaryOn = t.boundaryOn := by
  unfold Timebase.endSecond
  dsimp only
  split <;> simp [Timebase.fixLength]

@[simp] theorem Timebase.settleSlew_settings (t : Timebase) :
    t.settleSlew.clockValid = t.clockValid ∧ t.settleSlew.boundaryOn = t.boundaryOn := by
  unfold Timebase.settleSlew
  split <;> exact ⟨rfl, rfl⟩

@[simp] theorem State.tick_settings (s : State) :
    s.tick.timebase.clockValid = s.timebase.clockValid ∧ s.tick.timebase.boundaryOn = s.timebase.boundaryOn := by
  unfold State.tick
  dsimp only
  split <;> exact ⟨rfl, rfl⟩

@[simp] theorem State.collide_contexts (s : State) :
    s.collide.contexts.current.isSome = s.contexts.current.isSome ∧ s.collide.contexts.closing = s.contexts.closing := by
  have hcontexts : s.collide.contexts = s.readColliding.contexts := by simp [State.collide]
  rw [hcontexts]
  rcases s.readColliding_cases with hs | ⟨_, _, o, b, -, -, -, hs⟩ <;> rw [hs]
  · exact ⟨rfl, rfl⟩
  · exact s.character_contexts o b

/-! ### The changes of supply mode, COMMISSION and the counts -/

section
variable {s : State} (h : StationOk s)
include h

theorem StationOk.not_commissioned (hs : s.station.state = .unconfigured) : s.station.commissioned = false := by
  cases hc : s.station.commissioned
  · rfl
  · exact absurd hs (h.flag.mp hc)

theorem StationOk.enterBackup : StationOk { s with pfailnHigh := false }.enterBackup := by
  have hstation := enterBackup_station { s with pfailnHigh := false }
  refine h.of_supply ⟨?_, ?_, by simp, by simp [State.complete], by simp, by simp [State.enterBackup]⟩ ?_ ?_ ?_
  · rw [hstation]
    dsimp only
    split
    · next hq => simp [hq.2]
    · rfl
  all_goals simp [hstation]

theorem StationOk.leaveBackup : StationOk { s with pfailnHigh := true }.leaveBackup := by
  unfold State.leaveBackup
  dsimp only
  split
  · exact h.of_supply
      ⟨by simp [State.returnToMains], by simp [State.returnToMains], by simp, by simp [State.complete], by simp,
        by simp [State.returnToMains]⟩
      (by simp [State.returnToMains]) (by simp [State.returnToMains]) (by simp [State.returnToMains])
  · next hs => exact h.of_supply ⟨.rfl, rfl, rfl, rfl, rfl, rfl⟩ (fun _ => hs) (by simp) (by simp)

theorem StationOk.returnToMains (hr : s.recoveryEnds = true) : StationOk s.returnToMains := by
  have hpin : s.pfailnHigh = true := by
    cases hp : s.pfailnHigh
    · simp [State.recoveryEnds, h.backup.mpr hp] at hr
    · rfl
  exact h.of_supply
    ⟨by simp [State.returnToMains], by simp [State.returnToMains], by simp, by simp [State.complete], by simp,
      by simp [State.returnToMains]⟩
    (by simp [State.returnToMains]) (by simp [State.returnToMains, hpin]) (by simp [State.returnToMains])

theorem StationOk.cycle (hs hr cs cr : Sensor) : StationOk (s.cycle hs hr cs cr) := by
  have hcount : s.station.countRecovery.recoveryCount ≤ s.station.recoveryCount ∧
      (s.station.supplyMode ≠ .recovering → s.station.countRecovery.recoveryCount = s.station.recoveryCount) := by
    unfold Station.countRecovery
    split <;> simp_all
  refine h.of_supply ⟨by simp [State.cycle], by simp [State.cycle], by simp [State.cycle],
    by simp [State.complete, State.cycle], by simp, by simp⟩ ?_ ?_ ?_
  · simpa [State.cycle] using h.recovering
  · simpa [State.cycle] using h.backup
  · have hrec := h.recovery
    simp only [State.cycle, State.raiseIf_frame, Station.countRecovery_kept]
    exact ⟨hcount.1.trans hrec.1, fun hm => (hcount.2 hm).trans (hrec.2 hm)⟩

theorem StationOk.commission (hs : s.station.state = .unconfigured) (hc : s.complete = true) :
    StationOk (s.commissionBlocks.commissionLine.requestNotice .joining) := by
  have hm : s.station.supplyMode ≠ .recovering := fun hrec => h.recovering hrec hs
  constructor
  case flag => simp [State.commissionBlocks]
  case boundary => simp [State.commissionBlocks, Timebase.commission]
  case required =>
    intro _
    simpa [State.complete, State.commissionBlocks, Timebase.commission, Items.clampGrace] using hc
  case current => simp [State.commissionBlocks, Contexts.commission]
  case testMode => simp [State.commissionLine]
  case recovering => simp [State.commissionBlocks]
  case backup => simpa [State.commissionBlocks] using h.backup
  case recovery => simpa [State.commissionBlocks] using h.recovery

/-- A commissioned state entered, with a notice requested. -/
theorem StationOk.enter_requestNotice {x : StationState} (hs : s.station.state ≠ .unconfigured)
    (hx : x ≠ .unconfigured) (a : NoticeState) : StationOk ((s.enter x).requestNotice a) := by
  refine h.of_same ⟨?_, by simp [State.enter], by simp, by simp [State.complete], by simp, by simp⟩
    ⟨by simp [State.enter], by simp [State.enter], by simp⟩
  simp [State.enter, hs, hx]

/-- R26 to R34, R90, R131, R164, R166, R173: every change a command can make keeps the station's relations. -/
theorem StationOk.preserves (held : HeldAtReset s) : Preserves StationOk s where
  port := fun _ _ hu => hu.of_same ⟨.rfl, rfl, rfl, rfl, rfl, rfl⟩ ⟨rfl, rfl, rfl⟩
  writeItem := fun hs code value => by
    unfold writeItemEffect
    split
    · exact h
    · exact h.of_unconfigured hs (by simp) (by simp) (by simp) (by simp)
  holidayAdd := fun hs _ => h.of_unconfigured hs rfl rfl rfl rfl
  holidayClear := fun hs _ => h.of_unconfigured hs rfl rfl rfl rfl
  setClock := fun hs _ _ => by
    unfold setClockEffect
    split
    · exact h
    · exact h.of_unconfigured hs rfl rfl rfl rfl
  trimClock := fun _ _ => by
    unfold trimClockEffect
    split
    · exact h
    · exact h.of_same ⟨.rfl, rfl, by simp [Timebase.trim], by simp [State.complete, Timebase.trim], rfl, rfl⟩
        ⟨rfl, rfl, rfl⟩
  commission := h.commission
  quiet := fun hs _ _ => h.enter_requestNotice hs (by decide) _
  speak := fun hs => h.enter_requestNotice (by rcases hs with hs | hs <;> simp [hs]) (by decide) _
  snapshot := fun _ => by
    unfold snapshotEffect
    repeat' split
    · exact h
    · exact h.of_same ⟨by simp, by simp, by simp, by simp [State.complete], by simp, by simp⟩
        ⟨by simp, by simp, by simp⟩
    · exact h
  releaseRecord := by
    unfold releaseEffect
    repeat' split
    · exact h
    · exact h.of_same ⟨.rfl, rfl, rfl, rfl, rfl, rfl⟩ ⟨rfl, rfl, rfl⟩
    · exact h.of_same ⟨by simp, by simp, by simp, by simp [State.complete], by simp, by simp⟩
        ⟨by simp, by simp, by simp⟩
  clearQueue := h.of_same ⟨.rfl, rfl, rfl, rfl, rfl, rfl⟩ ⟨rfl, rfl, rfl⟩
  readCause := h.of_same ⟨.rfl, rfl, rfl, rfl, rfl, rfl⟩ ⟨rfl, rfl, rfl⟩
  setEnables := fun _ _ _ => by
    unfold setEnablesEffect
    split
    · exact h
    · exact h.of_same ⟨.rfl, rfl, rfl, rfl, rfl, rfl⟩ ⟨rfl, rfl, rfl⟩
  clearFailure := h.of_same ⟨.rfl, rfl, rfl, rfl, rfl, rfl⟩ ⟨rfl, rfl, rfl⟩
  restartLine := fun _ =>
    h.of_same ⟨by simp [restartLineEffect], by simp [restartLineEffect], by simp [restartLineEffect],
      by simp [State.complete, restartLineEffect], by simp [restartLineEffect], rfl⟩
      ⟨by simp [restartLineEffect], by simp [restartLineEffect], by simp [restartLineEffect]⟩
  resetConverter := fun _ => h.of_same ⟨.rfl, rfl, rfl, rfl, rfl, rfl⟩ ⟨rfl, rfl, rfl⟩
  lineTestMode := fun hs mode => by
    unfold lineTestModeEffect
    repeat' split
    · exact h
    · exact h
    · exact h.of_unconfigured hs (by simp) (by simp) (by simp) (by simp)
  sendTest := fun _ => by
    unfold sendTestEffect
    split
    · exact h
    · exact h.of_same ⟨by simp, by simp, by simp, by simp [State.complete], by simp, by simp⟩
        ⟨by simp, by simp, by simp⟩
  reset := fun _ => stationOk_fullReset s s.rstnHigh
  rstnFalling := fun _ => stationOk_fullReset s false
  rstnRising := fun _ => stationOk_fullReset s true
  flowPulse := fun _ _ => h.of_same ⟨.rfl, rfl, rfl, rfl, rfl, rfl⟩ ⟨rfl, rfl, rfl⟩
  pfailnFollow := fun hlow b => by
    rw [State.followPin_of_held hlow held]
    exact stationOk_fullReset { s with pfailnHigh := b } s.rstnHigh
  pfailnFallingBackup := fun _ hp hm => by simp [h.backup.mp hm] at hp
  pfailnFalling := fun _ _ _ => h.enterBackup
  pfailnRisingBackup := fun _ _ _ => h.leaveBackup
  pfailnRising := fun _ hp hm => absurd (h.backup.mpr hp) hm
  recoveryEnd := fun _ hr => h.returnToMains hr
  countedSecondEnd := fun _ _ _ =>
    h.of_same ⟨.rfl, rfl, by simp, by simp [State.complete], rfl, rfl⟩ ⟨rfl, rfl, rfl⟩
  slewStep := fun _ => h.of_same ⟨.rfl, rfl, by simp, by simp [State.complete], rfl, rfl⟩ ⟨rfl, rfl, rfl⟩
  cycleEvent := fun _ _ => h.cycle
  converterRestartEnd := fun _ _ => h.of_same ⟨.rfl, rfl, rfl, rfl, rfl, rfl⟩ ⟨rfl, rfl, rfl⟩
  windowBoundary := fun _ _ _ =>
    h.of_same ⟨by simp, by simp, by simp, by simp [State.complete], by simp, by simp⟩ ⟨by simp, by simp, by simp⟩
  dayBoundary := fun _ _ =>
    h.of_same ⟨.rfl, rfl, rfl, rfl, by simp [Contexts.rollOver], rfl⟩ ⟨rfl, rfl, rfl⟩
  graceExpiry := fun _ _ =>
    h.of_same ⟨by simp, by simp, by simp, by simp [State.complete], by simp, by simp⟩ ⟨by simp, by simp, by simp⟩
  idleGap := fun _ _ =>
    h.of_same ⟨by simp, by simp, by simp, by simp [State.complete], by simp, by simp⟩ ⟨by simp, by simp, by simp⟩
  character := fun _ _ _ _ =>
    h.of_same ⟨by simp, by simp, by simp, by simp [State.complete], by simp, by simp⟩ ⟨by simp, by simp, by simp⟩
  frameReceived := fun _ =>
    h.of_same ⟨by simp, by simp, by simp, by simp [State.complete], by simp, by simp⟩ ⟨by simp, by simp, by simp⟩
  backoffExpiry := fun _ _ => h.of_same ⟨.rfl, rfl, rfl, rfl, rfl, by simp⟩ ⟨rfl, rfl, rfl⟩
  txCollision := fun _ _ =>
    h.of_same ⟨by simp, by simp, by simp, by simp [State.complete], by simp, by simp⟩ ⟨by simp, by simp, by simp⟩
  txSuccess := fun _ _ =>
    h.of_same ⟨by simp, by simp, by simp, by simp [State.complete], by simp, by simp⟩ ⟨by simp, by simp, by simp⟩
  lineStuck := fun _ _ =>
    h.of_same ⟨by simp, by simp, by simp, by simp [State.complete], by simp, by simp⟩ ⟨by simp, by simp, by simp⟩
  irqnPulseEnd := fun _ => h.of_same ⟨.rfl, rfl, rfl, rfl, rfl, rfl⟩ ⟨rfl, rfl, rfl⟩
  startBit := fun _ _ => h.of_same ⟨.rfl, rfl, rfl, rfl, rfl, by simp⟩ ⟨rfl, rfl, rfl⟩

end

/-! ### The settled statement -/

/-- Settles O54, by the case list of `Preserves`: most changes agree in all that `StationOk` speaks of, and the few that move
the supply mode, commission or reset have a lemma each. -/
theorem stepKeepsStation : Obligations.StepKeepsStation := by
  unfold Obligations.StepKeepsStation
  intro s t held h hstep
  refine step_keeps hstep h (fun _ q hu => hu.with_pending q) ?_ fun q => (h.with_pending q).preserves (held.with_pending q)
  exact h.of_same ⟨by simp, by simp, by simp, by simp [State.complete], by simp, by simp⟩ ⟨by simp, by simp, by simp⟩

end Sys2Proof.Machine

/-! SUPPORT. The Timebase (R22 to R34): each of its operations in closed form, and its ranges through every command. -/

namespace Sys2Proof.Machine

/-! ### The end of a counted second in closed form (R24 to R30, R34) -/

/-- R34: the second that has ended was slewed, with the sign of slew remaining at its end. -/
abbrev Timebase.slewed (t : Timebase) : Prop :=
  t.secondLength = .shortened ∧ 0 < t.slewRemaining ∨ t.secondLength = .lengthened ∧ t.slewRemaining < 0

theorem Timebase.slewed_iff (t : Timebase) :
    t.slewed ↔ t.secondLength ≠ .nominal ∧ t.secondLength = lengthForSlew t.slewRemaining := by
  unfold Timebase.slewed lengthForSlew
  cases t.secondLength <;> split <;> (try split) <;> simp <;> omega

theorem Timebase.countSlew_eq (t : Timebase) :
    t.countSlew =
      { t with
        slewCount := if t.slewed ∧ t.slewCount < 7 then t.slewCount + 1 else t.slewCount
        due := { t.due with slewStep := t.due.slewStep || decide (t.slewed ∧ 7 ≤ t.slewCount) } } := by
  unfold Timebase.countSlew
  by_cases hs : t.slewed
  · rw [if_pos (t.slewed_iff.mp hs)]
    by_cases hc : t.slewCount < 7
    · have hlow : t.slewCount + 1 < 8 := by omega
      have hnot : ¬7 ≤ t.slewCount := by omega
      simp [hs, hc, hlow, hnot]
    · have hhigh : ¬t.slewCount + 1 < 8 := by omega
      have hle : 7 ≤ t.slewCount := by omega
      simp [hs, hc, hhigh, hle]
  · rw [if_neg (mt t.slewed_iff.mpr hs)]
    simp [hs]

theorem Timebase.advanceSecond_eq (t : Timebase) :
    t.advanceSecond =
      { t with
        secondFraction := 0
        secondOfDay := if t.secondOfDay < 86399 then t.secondOfDay + 1 else 0
        day := if t.secondOfDay < 86399 then t.day else (t.day + 1) % 65536 } := by
  unfold Timebase.advanceSecond
  by_cases h : t.secondOfDay < 86399
  · have hlow : ¬86400 ≤ t.secondOfDay + 1 := by omega
    simp [h, hlow]
  · have hhigh : 86400 ≤ t.secondOfDay + 1 := by omega
    simp [h, hhigh]

theorem Timebase.advanceCycle_eq (t : Timebase) :
    t.advanceCycle =
      { t with
        cyclePhase := if t.cyclePhase = 0 then 1 else 0
        due := { t.due with cycleEvent := t.due.cycleEvent || decide (t.cyclePhase ≠ 0) } } := by
  unfold Timebase.advanceCycle
  by_cases h : t.cyclePhase = 0
  · simp [h]
  · have hlow : 2 ≤ t.cyclePhase + 1 := by omega
    simp [h, hlow]

theorem Timebase.advanceWindow_eq (t : Timebase) (l : WindowLength) (grace : Nat) :
    t.advanceWindow l grace =
      { t with
        secondsInWindow := if t.secondsInWindow + 1 < l.seconds then t.secondsInWindow + 1 else 0
        windowInDay :=
          if t.secondsInWindow + 1 < l.seconds then t.windowInDay
          else if t.windowInDay + 1 < l.perDay then t.windowInDay + 1 else 0
        due :=
          { t.due with
            windowBoundary := t.due.windowBoundary || decide (l.seconds ≤ t.secondsInWindow + 1)
            dayBoundary :=
              t.due.dayBoundary || decide (l.seconds ≤ t.secondsInWindow + 1 ∧ l.perDay ≤ t.windowInDay + 1)
            graceExpiry :=
              t.due.graceExpiry ||
                decide (t.secondsInWindow + 1 < l.seconds ∧ t.graceArmed = true ∧ t.secondsInWindow + 1 = grace) } } := by
  unfold Timebase.advanceWindow Timebase.issueBoundary
  by_cases hin : t.secondsInWindow + 1 < l.seconds
  · have hlow : ¬l.seconds ≤ t.secondsInWindow + 1 := by omega
    rw [if_neg hlow]
    split
    · next hg =>
      obtain ⟨harmed, rfl⟩ := hg
      simp [hin, hlow, harmed]
    · next hg =>
      have hnot : ¬(t.secondsInWindow + 1 < l.seconds ∧ t.graceArmed = true ∧ t.secondsInWindow + 1 = grace) :=
        fun h => hg h.2
      rw [decide_eq_false hnot]
      simp [hlow]
  · have hhigh : l.seconds ≤ t.secondsInWindow + 1 := by omega
    rw [if_pos hhigh]
    by_cases hday : t.windowInDay + 1 < l.perDay
    · have hlow : ¬l.perDay ≤ t.windowInDay + 1 := by omega
      simp [hin, hhigh, hday, hlow]
    · have hlast : l.perDay ≤ t.windowInDay + 1 := by omega
      simp [hin, hhigh, hday, hlast]

/-- R24 to R30, R34: the end of a counted second with boundary generation ON. -/
theorem Timebase.endSecond_of_on {t : Timebase} (h : t.boundaryOn = true) (l : WindowLength) (grace : Nat) :
    t.endSecond l grace =
      { t with
        secondOfDay := if t.secondOfDay < 86399 then t.secondOfDay + 1 else 0
        day := if t.secondOfDay < 86399 then t.day else (t.day + 1) % 65536
        secondFraction := 0
        secondLength := lengthForSlew t.slewRemaining
        cyclePhase := if t.cyclePhase = 0 then 1 else 0
        secondsInWindow := if t.secondsInWindow + 1 < l.seconds then t.secondsInWindow + 1 else 0
        windowInDay :=
          if t.secondsInWindow + 1 < l.seconds then t.windowInDay
          else if t.windowInDay + 1 < l.perDay then t.windowInDay + 1 else 0
        slewCount := if t.slewed ∧ t.slewCount < 7 then t.slewCount + 1 else t.slewCount
        due :=
          { slewStep := t.due.slewStep || decide (t.slewed ∧ 7 ≤ t.slewCount)
            cycleEvent := t.due.cycleEvent || decide (t.cyclePhase ≠ 0)
            windowBoundary := t.due.windowBoundary || decide (l.seconds ≤ t.secondsInWindow + 1)
            dayBoundary :=
              t.due.dayBoundary || decide (l.seconds ≤ t.secondsInWindow + 1 ∧ l.perDay ≤ t.windowInDay + 1)
            graceExpiry :=
              t.due.graceExpiry ||
                decide (t.secondsInWindow + 1 < l.seconds ∧ t.graceArmed = true ∧ t.secondsInWindow + 1 = grace) } } := by
  simp only [Timebase.endSecond, h, if_true, Timebase.countSlew_eq, Timebase.advanceSecond_eq, Timebase.fixLength,
    Timebase.advanceCycle_eq, Timebase.advanceWindow_eq]

/-- R24: the end of a counted second before COMMISSION, with no slew. -/
theorem Timebase.endSecond_of_off {t : Timebase} (h : t.boundaryOn = false) (hr : t.slewRemaining = 0)
    (hl : t.secondLength = .nominal) (l : WindowLength) (grace : Nat) : t.endSecond l grace = t.advanceSecond := by
  have hcount : t.countSlew = t := by simp [Timebase.countSlew, hl]
  have hfix : t.advanceSecond.fixLength = t.advanceSecond := by
    simp [Timebase.fixLength, Timebase.advanceSecond_eq, hr, lengthForSlew, hl]
  simp only [Timebase.endSecond, h, hcount, hfix, Bool.false_eq_true, if_false]

/-! ### Slew steps and trims (R33, R34) -/

theorem Timebase.settleSlew_of_due {t : Timebase} (h : t.due.slewStep = true) :
    t.settleSlew =
      { t with
        slewCount := 0, slewRemaining := t.slewRemaining - t.slewRemaining.sign
        secondLength := lengthForSlew (t.slewRemaining - t.slewRemaining.sign)
        due := { t.due with slewStep := false } } := by
  simp [Timebase.settleSlew, h, Timebase.slewStep, Timebase.fixLength]

theorem Timebase.settleSlew_of_not_due {t : Timebase} (h : t.due.slewStep = false) : t.settleSlew = t := by
  simp [Timebase.settleSlew, h]

theorem sub_sign_range {x : Int} (h : -120 ≤ x ∧ x ≤ 120) : -120 ≤ x - x.sign ∧ x - x.sign ≤ 120 := by
  rcases lt_trichotomy x 0 with hx | hx | hx
  · rw [Int.sign_eq_neg_one_of_neg hx]; omega
  · simp [hx]
  · rw [Int.sign_eq_one_of_pos hx]; omega

theorem clampInt_range {low high x : Int} (h : low ≤ high) : low ≤ clampInt low high x ∧ clampInt low high x ≤ high := by
  unfold clampInt
  split <;> (try split) <;> omega

/-! ### The window calendar of a day (R26) -/

theorem WindowLength.perDay_mul_seconds (l : WindowLength) : l.perDay * l.seconds = 86400 := by cases l <;> rfl

theorem WindowLength.seconds_pos (l : WindowLength) : 0 < l.seconds := by cases l <;> decide

/-! ### What `ClockOk` depends on -/

section
variable {s t : State} (h : ClockOk s)
include h

theorem ClockOk.of_eq (ht : t.timebase = s.timebase) (hl : t.items.length = s.items.length) : ClockOk t where
  secondOfDay := by rw [ht]; exact h.secondOfDay
  day := by rw [ht]; exact h.day
  invalid := by rw [ht]; exact h.invalid
  off := by rw [ht]; exact h.off
  window := by rw [ht, hl]; exact h.window
  inWindow := by rw [ht, hl]; exact h.inWindow
  phase := by rw [ht]; exact h.phase
  slew := by rw [ht]; exact h.slew
  slewCount := by rw [ht]; exact h.slewCount

/-- R24: before COMMISSION nothing is issued. -/
theorem ClockOk.due_of_off (hoff : s.timebase.boundaryOn = false) : s.timebase.due = .reset := by
  rw [h.off hoff]; rfl

/-- R24: an event is issued with boundary generation ON only. -/
theorem ClockOk.on_of_due (hd : s.timebase.due ≠ .reset) : s.timebase.boundaryOn = true := by
  cases hon : s.timebase.boundaryOn
  · exact absurd (h.due_of_off hon) hd
  · rfl

/-- With boundary generation ON the second fraction and the marks are free. -/
theorem ClockOk.of_marks (hon : s.timebase.boundaryOn = true) {armed : Bool} {fraction : Nat} {due : Due}
    (ht : t.timebase = { s.timebase with graceArmed := armed, secondFraction := fraction, due := due })
    (hl : t.items.length = s.items.length) : ClockOk t where
  secondOfDay := by rw [ht]; exact h.secondOfDay
  day := by rw [ht]; exact h.day
  invalid := by rw [ht]; exact h.invalid
  off := by rw [ht]; intro hoff; exact absurd (hon.symm.trans hoff) (by decide)
  window := by rw [ht, hl]; exact h.window
  inWindow := by rw [ht, hl]; exact h.inWindow
  phase := by rw [ht]; exact h.phase
  slew := by rw [ht]; exact h.slew
  slewCount := by rw [ht]; exact h.slewCount

/-- With boundary generation ON slew remaining and the slew count may move within their ranges. -/
theorem ClockOk.of_slew (hon : s.timebase.boundaryOn = true) {slew : Int} {count : Nat} {length : SecondLength} {due : Due}
    (hslew : -120 ≤ slew ∧ slew ≤ 120) (hcount : count ≤ 7)
    (ht : t.timebase =
      { s.timebase with slewRemaining := slew, slewCount := count, secondLength := length, due := due })
    (hl : t.items.length = s.items.length) : ClockOk t where
  secondOfDay := by rw [ht]; exact h.secondOfDay
  day := by rw [ht]; exact h.day
  invalid := by rw [ht]; exact h.invalid
  off := by rw [ht]; intro hoff; exact absurd (hon.symm.trans hoff) (by decide)
  window := by rw [ht, hl]; exact h.window
  inWindow := by rw [ht, hl]; exact h.inWindow
  phase := by rw [ht]; exact h.phase
  slew := by rw [ht]; exact hslew
  slewCount := by rw [ht]; exact hcount

/-- Before COMMISSION the time of day and WINDOW_LENGTH may change. -/
theorem ClockOk.of_off (hoff : s.timebase.boundaryOn = false) {valid : Bool} {second day fraction : Nat}
    (ht : t.timebase =
      { s.timebase with clockValid := valid, secondOfDay := second, day := day, secondFraction := fraction })
    (hsecond : second < 86400) (hday : day < 65536) (hvalid : valid = false → second = 0 ∧ day = 0) : ClockOk t where
  secondOfDay := by rw [ht]; exact hsecond
  day := by rw [ht]; exact hday
  invalid := by rw [ht]; exact hvalid
  off := fun _ => by rw [ht, h.off hoff]
  window := by rw [ht]; intro hon; exact absurd (hoff.symm.trans hon) (by decide)
  inWindow := by rw [ht, h.off hoff]; exact t.items.length.seconds_pos
  phase := by rw [ht]; intro hon; exact absurd (hoff.symm.trans hon) (by decide)
  slew := by rw [ht]; exact h.slew
  slewCount := by rw [ht]; exact h.slewCount

/-- Before COMMISSION the items may change. -/
theorem ClockOk.of_timebase (hoff : s.timebase.boundaryOn = false) (ht : t.timebase = s.timebase) : ClockOk t :=
  h.of_off hoff ht h.secondOfDay h.day h.invalid

theorem ClockOk.settleSlew (ht : t.timebase = s.timebase.settleSlew) (hl : t.items.length = s.items.length) :
    ClockOk t := by
  cases hd : s.timebase.due.slewStep
  · rw [Timebase.settleSlew_of_not_due hd] at ht
    exact h.of_eq ht hl
  · rw [Timebase.settleSlew_of_due hd] at ht
    have hon : s.timebase.boundaryOn = true := h.on_of_due (by intro hr; simp [hr, Due.reset] at hd)
    exact h.of_slew hon (sub_sign_range h.slew) (by decide) ht hl

theorem ClockOk.trim (hon : s.timebase.boundaryOn = true) (seconds : Int)
    (ht : t.timebase = s.timebase.trim seconds) (hl : t.items.length = s.items.length) : ClockOk t := by
  refine h.of_slew hon (clampInt_range (by decide)) ?_ ht hl
  split
  exacts [by decide, h.slewCount]

/-- R26, R31: the window in progress is one of the day's, and it ends within the day. -/
theorem ClockOk.window_lt (hon : s.timebase.boundaryOn = true) : s.timebase.windowInDay < s.items.length.perDay := by
  by_contra hge
  have hmul := Nat.mul_le_mul_right s.items.length.seconds (Nat.le_of_not_lt hge)
  have hwindow := h.window hon
  have hsecond := h.secondOfDay
  have hper := s.items.length.perDay_mul_seconds
  omega

/-- R24, R26 to R28, R34: the second of the day, the window counters and the cycle phase move together. -/
theorem ClockOk.endSecond_of_on (hon : s.timebase.boundaryOn = true) (hv : s.timebase.clockValid = true) :
    ClockOk { s with timebase := s.timebase.endSecond s.items.length s.items.grace } := by
  have hwindow := h.window hon
  have hin := h.inWindow
  have hsecond := h.secondOfDay
  have hphase := h.phase hon
  have hper := s.items.length.perDay_mul_seconds
  have hpos := s.items.length.seconds_pos
  have hend : (s.timebase.windowInDay + 1) * s.items.length.seconds ≤ 86400 :=
    hper ▸ Nat.mul_le_mul_right _ (h.window_lt hon)
  have hnext : s.timebase.windowInDay + 1 < s.items.length.perDay →
      (s.timebase.windowInDay + 2) * s.items.length.seconds ≤ 86400 :=
    fun hlt => hper ▸ Nat.mul_le_mul_right _ hlt
  have hlast : ¬s.timebase.windowInDay + 1 < s.items.length.perDay →
      (s.timebase.windowInDay + 1) * s.items.length.seconds = 86400 := fun hge => by
    have heq : s.timebase.windowInDay + 1 = s.items.length.perDay := by have := h.window_lt hon; omega
    rw [heq, hper]
  rw [Nat.add_mul] at hend hnext hlast
  rw [Timebase.endSecond_of_on hon]
  constructor <;> dsimp only
  case secondOfDay => split <;> omega
  case day =>
    have hday := h.day
    split <;> omega
  case invalid => intro hinvalid; exact absurd (hv.symm.trans hinvalid) (by decide)
  case off => intro hoff; exact absurd (hon.symm.trans hoff) (by decide)
  case window =>
    intro _
    by_cases hrun : s.timebase.secondsInWindow + 1 < s.items.length.seconds
    · have hday : s.timebase.secondOfDay < 86399 := by omega
      rw [if_pos hrun, if_pos hrun, if_pos hday]
      omega
    · rw [if_neg hrun, if_neg hrun]
      by_cases hmore : s.timebase.windowInDay + 1 < s.items.length.perDay
      · have hmoreDay := hnext hmore
        have hday : s.timebase.secondOfDay < 86399 := by omega
        rw [if_pos hmore, if_pos hday, Nat.add_mul]
        omega
      · have hlastDay := hlast hmore
        have hday : ¬s.timebase.secondOfDay < 86399 := by omega
        rw [if_neg hmore, if_neg hday]
        omega
  case inWindow => split <;> omega
  case phase => intro _; split <;> split <;> omega
  case slew => exact h.slew
  case slewCount =>
    have hcount := h.slewCount
    split <;> omega

theorem ClockOk.endSecond (hv : s.timebase.clockValid = true) :
    ClockOk { s with timebase := s.timebase.endSecond s.items.length s.items.grace } := by
  cases hon : s.timebase.boundaryOn
  · have hreset := h.off hon
    rw [Timebase.endSecond_of_off hon (by rw [hreset]; rfl) (by rw [hreset]; rfl)]
    have hsecond := h.secondOfDay
    have hday := h.day
    refine h.of_off hon (Timebase.advanceSecond_eq _) ?_ ?_ ?_
    · split <;> omega
    · split <;> omega
    · intro hinvalid; exact absurd (hv.symm.trans hinvalid) (by decide)
  · exact h.endSecond_of_on hon hv

/-- R26: COMMISSION sets the window counters and the cycle phase by the time of day. -/
theorem ClockOk.commission (ht : t.timebase = s.timebase.commission t.items.length) (hv : s.timebase.clockValid = true) :
    ClockOk t where
  secondOfDay := by rw [ht]; exact h.secondOfDay
  day := by rw [ht]; exact h.day
  invalid := by rw [ht]; intro hinvalid; exact absurd (hv.symm.trans hinvalid) (by decide)
  off := by rw [ht]; intro hoff; cases hoff
  window := by rw [ht]; intro _; exact (Nat.div_add_mod' _ _).symm
  inWindow := by rw [ht]; exact Nat.mod_lt _ t.items.length.seconds_pos
  phase := by rw [ht]; intro _; rfl
  slew := by rw [ht]; exact h.slew
  slewCount := by rw [ht]; exact h.slewCount

end

theorem StationOk.boundaryOff {s : State} (h : StationOk s) (hs : s.station.state = .unconfigured) :
    s.timebase.boundaryOn = false := by
  rw [h.boundary, h.not_commissioned hs]

theorem StationOk.boundaryOn {s : State} (h : StationOk s) (hs : s.station.state ≠ .unconfigured) :
    s.timebase.boundaryOn = true := by
  rw [h.boundary]
  exact h.flag.mpr hs

theorem State.cycle_timebase (s : State) (hs hr cs cr : Sensor) :
    (s.cycle hs hr cs cr).timebase = { s.timebase with due := { s.timebase.due with cycleEvent := false } } := by
  simp [State.cycle]

theorem clockOk_fullReset (s : State) (r : Bool) : ClockOk { s.fullReset with rstnHigh := r } := by
  constructor <;> simp [State.fullReset, State.reset, Timebase.reset, WindowLength.seconds_pos]

/-- R22 to R34: every change a command can make keeps the Timebase. -/
theorem ClockOk.preserves {s : State} (h : ClockOk s) (hst : StationOk s) :
    Preserves ClockOk s where
  port := fun _ _ hu => hu.of_eq rfl rfl
  writeItem := fun hs code value => by
    have hoff := hst.boundaryOff hs
    unfold writeItemEffect
    split
    · exact h
    · exact h.of_timebase hoff (by simp)
  holidayAdd := fun hs value => by
    have hoff := hst.boundaryOff hs
    exact h.of_timebase hoff rfl
  holidayClear := fun hs value => by
    have hoff := hst.boundaryOff hs
    exact h.of_timebase hoff rfl
  setClock := fun hs day second => by
    have hoff := hst.boundaryOff hs
    unfold setClockEffect
    split
    · exact h
    · next hin => exact h.of_off hoff rfl (by omega) day.isLt (fun hinvalid => by cases hinvalid)
  trimClock := fun hs seconds => by
    have hon := hst.boundaryOn hs
    unfold trimClockEffect
    split
    · exact h
    · have hsettled : ClockOk { s with timebase := s.timebase.settleSlew } := h.settleSlew rfl rfl
      exact hsettled.trim (by simpa using hon) _ rfl rfl
  commission := fun _ hc => by
    have hv : s.timebase.clockValid = true := by
      simp only [State.complete, Bool.and_eq_true] at hc
      exact hc.1.1.1
    exact h.commission (by simp [State.commissionBlocks, Items.clampGrace, Items.length]) hv
  quiet := fun _ _ _ => h.of_eq (by simp) (by simp)
  speak := fun _ => h.of_eq (by simp) (by simp)
  snapshot := fun _ => by
    unfold snapshotEffect
    repeat' split
    exacts [h, h.of_eq (by simp) (by simp), h]
  releaseRecord := by
    unfold releaseEffect
    repeat' split
    exacts [h, h.of_eq rfl rfl, h.of_eq (by simp) (by simp)]
  clearQueue := h.of_eq rfl rfl
  readCause := h.of_eq rfl rfl
  setEnables := fun _ _ _ => by
    unfold setEnablesEffect
    split
    exacts [h, h.of_eq rfl rfl]
  clearFailure := h.of_eq rfl rfl
  restartLine := fun _ => h.of_eq (by simp [restartLineEffect]) (by simp [restartLineEffect])
  resetConverter := fun _ => h.of_eq rfl rfl
  lineTestMode := fun _ mode => by
    unfold lineTestModeEffect
    repeat' split
    exacts [h, h, h.of_eq (by simp) (by simp)]
  sendTest := fun _ => by
    unfold sendTestEffect
    split
    exacts [h, h.of_eq (by simp) (by simp)]
  reset := fun _ => clockOk_fullReset s s.rstnHigh
  rstnFalling := fun _ => clockOk_fullReset s false
  rstnRising := fun _ => clockOk_fullReset s true
  flowPulse := fun _ _ => h.of_eq rfl rfl
  pfailnFollow := fun _ _ => h.of_eq (by simp) (by simp)
  pfailnFallingBackup := fun _ _ _ => h.of_eq rfl rfl
  pfailnFalling := fun _ _ _ => h.of_eq (by simp) (by simp)
  pfailnRisingBackup := fun _ _ _ => h.of_eq (by simp) (by simp)
  pfailnRising := fun _ _ _ => h.of_eq rfl rfl
  recoveryEnd := fun _ _ => h.of_eq (by simp) (by simp)
  countedSecondEnd := fun _ hv _ => h.endSecond hv
  slewStep := fun _ => h.settleSlew rfl rfl
  cycleEvent := fun _ hd hs hr cs cr => by
    have hon := h.on_of_due (by intro hreset; simp [hreset, Due.reset] at hd)
    exact h.of_marks hon (s.cycle_timebase hs hr cs cr) (by simp)
  converterRestartEnd := fun _ _ => h.of_eq rfl rfl
  windowBoundary := fun _ hd _ => by
    have hon := h.on_of_due (by intro hreset; simp [hreset, Due.reset] at hd)
    exact h.of_marks hon s.boundary_timebase (by simp)
  dayBoundary := fun _ hd => by
    have hon := h.on_of_due (by intro hreset; simp [hreset, Due.reset] at hd)
    exact h.of_marks hon rfl rfl
  graceExpiry := fun _ hd => by
    have hon := h.on_of_due (by intro hreset; simp [hreset, Due.reset] at hd)
    exact h.of_marks hon s.graceExpiry_timebase (by simp)
  idleGap := fun _ _ => h.of_eq (by simp) (by simp)
  character := fun _ _ _ _ => h.of_eq (by simp) (by simp)
  frameReceived := fun _ => h.of_eq (by simp) (by simp)
  backoffExpiry := fun _ _ => h.of_eq rfl rfl
  txCollision := fun _ _ => h.of_eq (by simp) (by simp)
  txSuccess := fun _ _ => h.of_eq (by simp) (by simp)
  lineStuck := fun _ _ => h.of_eq (by simp) (by simp)
  irqnPulseEnd := fun _ => h.of_eq rfl rfl
  startBit := fun _ _ => h.of_eq rfl rfl

theorem ClockOk.tick {s : State} (h : ClockOk s) : ClockOk s.tick := by
  have hfraction : ∃ x, s.tick.timebase = { s.timebase with secondFraction := x } := by
    unfold State.tick
    dsimp only
    split <;> exact ⟨_, rfl⟩
  obtain ⟨x, hx⟩ := hfraction
  cases hon : s.timebase.boundaryOn
  · exact h.of_off hon hx h.secondOfDay h.day h.invalid
  · exact h.of_marks hon hx (by simp)

/-! ### The settled statement -/

/-- Settles O55: the second's end by its closed form (`Timebase.endSecond_of_on`), every other change of the Timebase by what it
leaves of the fields `ClockOk` relates. -/
theorem stepKeepsClock : Obligations.StepKeepsClock := by
  unfold Obligations.StepKeepsClock
  intro s t _ hst h hstep
  exact step_keeps hstep h (fun _ _ hu => hu.of_eq rfl rfl) h.tick fun q =>
    ClockOk.preserves (h.of_eq rfl rfl) (hst.with_pending q)

end Sys2Proof.Machine

/-! SUPPORT. The circuit meters and the converter (R1 to R21) through every command. -/

namespace Sys2Proof.Machine

/-! ### One circuit meter -/

theorem meterOk_reset : MeterOk .reset := by
  constructor <;> simp [CircuitMeter.reset]

theorem sensorReading_valid {x : Sensor} (h : (sensorReading x).isValid = true) :
    -2000 ≤ (sensorReading x).value ∧ (sensorReading x).value ≤ 13000 := by
  cases x with
  | converted v =>
    by_cases hr : -2000 ≤ v.toInt ∧ v.toInt ≤ 13000
    · exact hr
    · simp [sensorReading, Reading.isValid, hr] at h
  | openCircuit v => simp [sensorReading, Reading.isValid] at h
  | shortCircuit v => simp [sensorReading, Reading.isValid] at h

/-- Readings as sensors deliver them: a valid one lies in the range of R5. -/
def Reading.InRange (r : Reading) : Prop := r.isValid = true → -2000 ≤ r.value ∧ r.value ≤ 13000

theorem sensorReading_inRange (x : Sensor) : (sensorReading x).InRange := sensorReading_valid

/-- R9 to R13: the fields that go with a circuit's state. -/
structure CircuitCounts (m : CircuitMeter) : Prop where
  normal : m.state = .normal → m.holdCount = 0 ∧ m.goodRun = 0
  holding : m.state = .holding → 1 ≤ m.holdCount ∧ m.holdCount ≤ 7 ∧ m.goodRun = 0
  fault : m.state = .fault → m.holdCount = 8 ∧ m.goodRun ≤ 1

theorem MeterOk.counts {m : CircuitMeter} (h : MeterOk m) : CircuitCounts m := ⟨h.normal, h.holding, h.fault⟩

theorem CircuitCounts.of_eq {m n : CircuitMeter} (h : CircuitCounts m) (hs : n.state = m.state)
    (hh : n.holdCount = m.holdCount) (hg : n.goodRun = m.goodRun) : CircuitCounts n where
  normal := by rw [hs, hh, hg]; exact h.normal
  holding := by rw [hs, hh, hg]; exact h.holding
  fault := by rw [hs, hh, hg]; exact h.fault

/-- R11 to R13: a present circuit stays present, and its counts go with its state. -/
theorem CircuitCounts.transition {m : CircuitMeter} (h : CircuitCounts m) (hp : m.state ≠ .absent) (valid : Bool) :
    CircuitCounts (m.transition valid) ∧ (m.transition valid).state ≠ .absent := by
  unfold CircuitMeter.transition
  split
  next hs => exact absurd hs hp
  next hs => exact ⟨h, hp⟩
  next hs => exact ⟨⟨by simp, by simp [h.normal hs], by simp⟩, by simp⟩
  next hs => exact ⟨⟨by simp [h.holding hs], by simp, by simp⟩, by simp⟩
  next hs =>
    have hcount := h.holding hs
    split
    · next hlow => exact ⟨⟨by simp [hs], by simp [hs]; omega, by simp [hs]⟩, hp⟩
    · exact ⟨⟨by simp, by simp, by simp⟩, by simp⟩
  next hs =>
    split
    · exact ⟨⟨by simp [hs], by simp [hs], by simp [hs, h.fault hs]⟩, hp⟩
    · exact ⟨⟨by simp, by simp, by simp⟩, by simp⟩
  next hs => exact ⟨⟨by simp [hs], by simp [hs], by simp [hs, h.fault hs]⟩, hp⟩

/-- A transition moves the state and its two counts only. -/
@[simp] theorem CircuitMeter.transition_frame (m : CircuitMeter) (valid : Bool) :
    (m.transition valid).heldSupply = m.heldSupply ∧ (m.transition valid).heldReturn = m.heldReturn ∧
    (m.transition valid).supplyValid = m.supplyValid ∧ (m.transition valid).returnValid = m.returnValid ∧
    (m.transition valid).residue = m.residue ∧ (m.transition valid).pulseCounter = m.pulseCounter ∧
    (m.transition valid).latched = m.latched ∧ (m.transition valid).lifetimeEnergy = m.lifetimeEnergy ∧
    (m.transition valid).lifetimeVolume = m.lifetimeVolume := by
  unfold CircuitMeter.transition
  repeat' split
  all_goals simp

/-- The accounting of a cycle moves the residue and the lifetime registers only. -/
@[simp] theorem CircuitMeter.account_frame (m : CircuitMeter) (circuit : Plant) (weight cutoff : Nat) (kind : EventKind)
    (enters : Bool) :
    (m.account circuit weight cutoff kind enters).1.state = m.state ∧
    (m.account circuit weight cutoff kind enters).1.heldSupply = m.heldSupply ∧
    (m.account circuit weight cutoff kind enters).1.heldReturn = m.heldReturn ∧
    (m.account circuit weight cutoff kind enters).1.supplyValid = m.supplyValid ∧
    (m.account circuit weight cutoff kind enters).1.returnValid = m.returnValid ∧
    (m.account circuit weight cutoff kind enters).1.holdCount = m.holdCount ∧
    (m.account circuit weight cutoff kind enters).1.goodRun = m.goodRun ∧
    (m.account circuit weight cutoff kind enters).1.pulseCounter = m.pulseCounter ∧
    (m.account circuit weight cutoff kind enters).1.latched = m.latched := by
  unfold CircuitMeter.account CircuitMeter.addLifetime
  dsimp only
  repeat' split
  all_goals simp

theorem CircuitMeter.account_ranges {m : CircuitMeter} (hr : m.residue < 100000)
    (hl : m.lifetimeEnergy < 2 ^ 64 ∧ m.lifetimeVolume < 2 ^ 64) (circuit : Plant) (weight cutoff : Nat)
    (kind : EventKind) (enters : Bool) :
    (m.account circuit weight cutoff kind enters).1.residue < 100000 ∧
    (m.account circuit weight cutoff kind enters).1.lifetimeEnergy < 2 ^ 64 ∧
    (m.account circuit weight cutoff kind enters).1.lifetimeVolume < 2 ^ 64 := by
  unfold CircuitMeter.account CircuitMeter.addLifetime
  dsimp only
  split
  · split
    · exact ⟨hr, hl⟩
    · exact ⟨Nat.mod_lt _ (by decide), Nat.mod_lt _ (by decide), Nat.mod_lt _ (by decide)⟩
  · exact ⟨hr, Nat.mod_lt _ (by decide), Nat.mod_lt _ (by decide)⟩

/-- R4, R10, R15 to R18: what the accounting of a present circuit leaves, where its counts suit its state. -/
theorem MeterOk.account {m n : CircuitMeter} (h : MeterOk m) (hn : CircuitCounts n) (hp : n.state ≠ .absent)
    (held : (-2000 ≤ n.heldSupply ∧ n.heldSupply ≤ 13000) ∧ (-2000 ≤ n.heldReturn ∧ n.heldReturn ≤ 13000))
    (pulses : n.pulseCounter ≤ 255 ∧ n.latched ≤ 255) (residue : n.residue = m.residue)
    (lifetimes : n.lifetimeEnergy = m.lifetimeEnergy ∧ n.lifetimeVolume = m.lifetimeVolume) (circuit : Plant)
    (weight cutoff : Nat) (kind : EventKind) (enters : Bool) :
    MeterOk (n.account circuit weight cutoff kind enters).1 := by
  have hcounts : CircuitCounts (n.account circuit weight cutoff kind enters).1 := hn.of_eq (by simp) (by simp) (by simp)
  have hranges := CircuitMeter.account_ranges (residue ▸ h.residue) (by rw [lifetimes.1, lifetimes.2]; exact h.lifetimes)
    circuit weight cutoff kind enters
  exact ⟨by simpa using held, hranges.1, by simpa using pulses, hranges.2,
    fun hs => absurd hs (by simpa using hp), hcounts.normal, hcounts.holding, hcounts.fault⟩

theorem CircuitMeter.cycle_of_absent {m : CircuitMeter} (h : m.state = .absent) (circuit : Plant) (weight cutoff : Nat)
    (kind : EventKind) (supply ret : Reading) : m.cycle circuit weight cutoff kind supply ret = (m, .nothing) := by
  simp [CircuitMeter.cycle, h]

/-- R10: the held temperatures after a cycle's valid readings are stored. -/
theorem MeterOk.storeValid_held {m : CircuitMeter} (h : MeterOk m) {supply ret : Reading} (hs : supply.InRange)
    (hr : ret.InRange) :
    (-2000 ≤ (m.storeValid supply ret).heldSupply ∧ (m.storeValid supply ret).heldSupply ≤ 13000) ∧
    (-2000 ≤ (m.storeValid supply ret).heldReturn ∧ (m.storeValid supply ret).heldReturn ≤ 13000) := by
  unfold CircuitMeter.storeValid
  refine ⟨?_, ?_⟩ <;> dsimp only <;> split
  exacts [hs ‹_›, h.held.1, hr ‹_›, h.held.2]

theorem MeterOk.cycle {m : CircuitMeter} (h : MeterOk m) (circuit : Plant) (weight cutoff : Nat) (kind : EventKind)
    {supply ret : Reading} (hs : supply.InRange) (hr : ret.InRange) :
    MeterOk (m.cycle circuit weight cutoff kind supply ret).1 := by
  have hpulses : m.latch.pulseCounter ≤ 255 ∧ m.latch.latched ≤ 255 := ⟨Nat.zero_le _, h.pulses.1⟩
  by_cases hp : m.state = .absent
  · rw [CircuitMeter.cycle_of_absent hp]; exact h
  · have hlatched : CircuitCounts m.latch := h.counts.of_eq rfl rfl rfl
    unfold CircuitMeter.cycle
    rw [if_neg hp]
    split
    · have hmoved : CircuitCounts (m.latch.storeValid supply ret) := hlatched.of_eq rfl rfl rfl
      obtain ⟨hcounts, hpresent⟩ := hmoved.transition hp (supply.isValid && ret.isValid)
      refine h.account hcounts hpresent ?_ (by simpa [CircuitMeter.storeValid] using hpulses)
        (by simp [CircuitMeter.storeValid, CircuitMeter.latch]) (by simp [CircuitMeter.storeValid, CircuitMeter.latch]) _ _ _ _ _
      simpa [CircuitMeter.storeValid, CircuitMeter.latch] using h.storeValid_held hs hr
    all_goals exact h.account hlatched hp h.held hpulses rfl ⟨rfl, rfl⟩ _ _ _ _ _

theorem MeterOk.countPulse {m : CircuitMeter} (h : MeterOk m) : MeterOk m.countPulse := by
  unfold CircuitMeter.countPulse
  split
  · exact h
  · next hp =>
    exact ⟨h.held, h.residue, ⟨Nat.min_le_left _ _, h.pulses.2⟩, h.lifetimes, fun hs => absurd hs hp, h.normal, h.holding,
      h.fault⟩

theorem MeterOk.commission {m : CircuitMeter} (h : MeterOk m) (hm : m = .reset) (present : Bool) :
    MeterOk (m.commission present) := by
  subst hm
  cases present
  · exact h
  · constructor <;> simp [CircuitMeter.commission, CircuitMeter.reset]

/-! ### The converter -/

/-- R2, R6, R8: the converter's counts, in a supply mode. -/
def ConverterOk (c : Converter) (mode : SupplyMode) : Prop :=
  (c.restartCount ≤ 2 ∧ (c.state = .running → c.restartCount = 0)) ∧
    c.backupCount ≤ 7 ∧ (mode ≠ .backup → c.backupCount = 0)

theorem MeteringOk.converter {s : State} (h : MeteringOk s) : ConverterOk s.converter s.station.supplyMode :=
  ⟨h.restart, h.backup⟩

theorem nextBackupCount_ok {mode : SupplyMode} {count : Nat} (h : count ≤ 7 ∧ (mode ≠ .backup → count = 0)) :
    nextBackupCount mode count ≤ 7 ∧ (mode ≠ .backup → nextBackupCount mode count = 0) := by
  unfold nextBackupCount
  split
  · next hm => exact ⟨by omega, fun hn => absurd hm hn⟩
  · exact h

theorem ConverterOk.cycle {c : Converter} {mode : SupplyMode} (h : ConverterOk c mode) (kind : EventKind)
    (delivered : Readings) (draw : Nat) :
    ConverterOk (c.cycle kind (nextBackupCount mode c.backupCount) delivered draw) mode := by
  obtain ⟨⟨hcount, hrun⟩, hbackup⟩ := h
  refine ⟨?_, nextBackupCount_ok hbackup⟩
  unfold Converter.cycle
  dsimp only
  split
  · next hs => exact ⟨by omega, fun hr => absurd (hs.symm.trans hr) (by decide)⟩
  · exact ⟨hcount, hrun⟩

theorem meteringOk_fullReset (s : State) (r : Bool) : MeteringOk { s.fullReset with rstnHigh := r } where
  heat := meterOk_reset
  cool := meterOk_reset
  unconfigured := fun _ => rfl
  restart := by simp [State.fullReset, State.reset, Converter.reset]
  backup := by simp [State.fullReset, State.reset, Converter.reset]

/-! ### What `MeteringOk` depends on -/

section
variable {s t : State} (h : MeteringOk s)
include h

theorem MeteringOk.of_converter (hm : t.meters = s.meters)
    (hs : t.station.state = .unconfigured → s.station.state = .unconfigured)
    (hc : ConverterOk t.converter t.station.supplyMode) : MeteringOk t where
  heat := by rw [hm]; exact h.heat
  cool := by rw [hm]; exact h.cool
  unconfigured := by rw [hm]; exact fun hu => h.unconfigured (hs hu)
  restart := hc.1
  backup := hc.2

theorem MeteringOk.of_eq (hm : t.meters = s.meters)
    (hs : t.station.state = .unconfigured → s.station.state = .unconfigured) (hc : t.converter = s.converter)
    (hmode : t.station.supplyMode = s.station.supplyMode) : MeteringOk t :=
  h.of_converter hm hs (by rw [hc, hmode]; exact h.converter)

theorem MeteringOk.flowPulse (c : Plant) :
    MeteringOk { s with meters := changeMeter CircuitMeter.countPulse c s.meters } where
  heat := by cases c; exacts [h.heat.countPulse, h.heat]
  cool := by cases c; exacts [h.cool, h.cool.countPulse]
  unconfigured := fun hu => by rw [h.unconfigured hu]; cases c <;> rfl
  restart := h.restart
  backup := h.backup

theorem MeteringOk.cycle (hs hr cs cr : Sensor) : MeteringOk (s.cycle hs hr cs cr) := by
  have hconverter := h.converter.cycle
    (eventKind s.station.supplyMode (nextBackupCount s.station.supplyMode s.converter.backupCount) s.converter.state)
    ⟨sensorReading hs, sensorReading hr, sensorReading cs, sensorReading cr⟩ s.freeCount
  constructor
  case heat => simpa [State.cycle] using h.heat.cycle _ _ _ _ (sensorReading_inRange hs) (sensorReading_inRange hr)
  case cool => simpa [State.cycle] using h.cool.cycle _ _ _ _ (sensorReading_inRange cs) (sensorReading_inRange cr)
  case unconfigured =>
    intro hu
    have hreset := h.unconfigured (by simpa [State.cycle] using hu)
    simp [State.cycle, hreset, PerPlant.both, CircuitMeter.cycle, CircuitMeter.reset]
  case restart => simpa [State.cycle] using hconverter.1
  case backup => simpa [State.cycle] using hconverter.2

theorem MeteringOk.commission (hs : s.station.state = .unconfigured) :
    MeteringOk (s.commissionBlocks.commissionLine.requestNotice .joining) := by
  have hreset := h.unconfigured hs
  have hheat : s.meters.heat = .reset := by rw [hreset]; rfl
  have hcool : s.meters.cool = .reset := by rw [hreset]; rfl
  constructor
  case heat => simpa [State.commissionBlocks] using h.heat.commission hheat _
  case cool => simpa [State.commissionBlocks] using h.cool.commission hcool _
  case unconfigured => simp [State.commissionBlocks]
  case restart => simp [State.commissionBlocks, Converter.commission]
  case backup => simp [State.commissionBlocks, Converter.commission]

theorem MeteringOk.enterBackup : MeteringOk { s with pfailnHigh := false }.enterBackup := by
  refine h.of_converter (by simp) (fun hu => ?_) ⟨?_, ?_⟩
  · exact by_contra fun hs => ((enterBackup_kept { s with pfailnHigh := false }).service hs).state hu
  · simpa [State.enterBackup] using h.restart
  · simp [State.enterBackup]

theorem MeteringOk.leaveBackup : MeteringOk { s with pfailnHigh := true }.leaveBackup := by
  refine h.of_converter (by simp) (fun hu => ?_) ⟨?_, ?_⟩
  · exact by_contra fun hs => ((leaveBackup_kept { s with pfailnHigh := true }).service hs).state hu
  all_goals
    unfold State.leaveBackup
    dsimp only
    split
  · simpa using h.restart
  · exact h.restart
  · simp
  · simp

theorem MeteringOk.returnToMains (hr : s.recoveryEnds = true) : MeteringOk s.returnToMains := by
  have hmode : s.station.supplyMode ≠ .backup := by
    intro hm; simp [State.recoveryEnds, hm] at hr
  have hcount := h.backup.2 hmode
  refine h.of_converter (by simp) (by simp [State.returnToMains]) ⟨by simpa using h.restart, ?_⟩
  simp [hcount]

/-- R1, R2, R6, R8 to R13, R18: every change a command can make keeps the meters and the converter. -/
theorem MeteringOk.preserves (held : HeldAtReset s) : Preserves MeteringOk s where
  port := fun _ _ hu => hu.of_eq rfl id rfl rfl
  writeItem := fun _ code value => by
    unfold writeItemEffect
    split
    exacts [h, h.of_eq (by simp) (by simp) (by simp) (by simp)]
  holidayAdd := fun _ _ => h.of_eq rfl id rfl rfl
  holidayClear := fun _ _ => h.of_eq rfl id rfl rfl
  setClock := fun _ _ _ => by
    unfold setClockEffect
    split
    exacts [h, h.of_eq rfl id rfl rfl]
  trimClock := fun _ _ => by
    unfold trimClockEffect
    split
    exacts [h, h.of_eq rfl id rfl rfl]
  commission := fun hs _ => h.commission hs
  quiet := fun hs _ _ => h.of_eq (by simp) (by simp [State.enter]) (by simp) (by simp [State.enter])
  speak := fun _ => h.of_eq (by simp) (by simp [State.enter]) (by simp) (by simp [State.enter])
  snapshot := fun _ => by
    unfold snapshotEffect
    repeat' split
    exacts [h, h.of_eq (by simp) (by simp) (by simp) (by simp), h]
  releaseRecord := by
    unfold releaseEffect
    repeat' split
    exacts [h, h.of_eq rfl id rfl rfl, h.of_eq (by simp) (by simp) (by simp) (by simp)]
  clearQueue := h.of_eq rfl id rfl rfl
  readCause := h.of_eq rfl id rfl rfl
  setEnables := fun _ _ _ => by
    unfold setEnablesEffect
    split
    exacts [h, h.of_eq rfl id rfl rfl]
  clearFailure := h.of_eq rfl id rfl rfl
  restartLine := fun _ =>
    h.of_eq (by simp [restartLineEffect]) (by simp [restartLineEffect]) (by simp [restartLineEffect])
      (by simp [restartLineEffect])
  resetConverter := fun _ => h.of_converter rfl id ⟨⟨le_refl 2, fun hrun => by cases hrun⟩, h.backup⟩
  lineTestMode := fun _ mode => by
    unfold lineTestModeEffect
    repeat' split
    exacts [h, h, h.of_eq (by simp) (by simp) (by simp) (by simp)]
  sendTest := fun _ => by
    unfold sendTestEffect
    split
    exacts [h, h.of_eq (by simp) (by simp) (by simp) (by simp)]
  reset := fun _ => meteringOk_fullReset s s.rstnHigh
  rstnFalling := fun _ => meteringOk_fullReset s false
  rstnRising := fun _ => meteringOk_fullReset s true
  flowPulse := fun _ => h.flowPulse
  pfailnFollow := fun hlow b => by
    rw [State.followPin_of_held hlow held]
    exact meteringOk_fullReset { s with pfailnHigh := b } s.rstnHigh
  pfailnFallingBackup := fun _ _ _ => h.of_eq rfl id rfl rfl
  pfailnFalling := fun _ _ _ => h.enterBackup
  pfailnRisingBackup := fun _ _ _ => h.leaveBackup
  pfailnRising := fun _ _ _ => h.of_eq rfl id rfl rfl
  recoveryEnd := fun _ hr => h.returnToMains hr
  countedSecondEnd := fun _ _ _ => h.of_eq rfl id rfl rfl
  slewStep := fun _ => h.of_eq rfl id rfl rfl
  cycleEvent := fun _ _ => h.cycle
  converterRestartEnd := fun _ hr => by
    have hcount : s.converter.restartCount = 0 := by
      simp only [State.restartEnds, Bool.and_eq_true, beq_iff_eq] at hr
      exact hr.2
    exact h.of_converter rfl id ⟨⟨h.restart.1, fun _ => hcount⟩, h.backup⟩
  windowBoundary := fun _ _ _ => h.of_eq (by simp) (by simp) (by simp) (by simp)
  dayBoundary := fun _ _ => h.of_eq rfl id rfl rfl
  graceExpiry := fun _ _ => h.of_eq (by simp) (by simp) (by simp) (by simp)
  idleGap := fun _ _ => h.of_eq (by simp) (by simp) (by simp) (by simp)
  character := fun _ _ _ _ => h.of_eq (by simp) (by simp) (by simp) (by simp)
  frameReceived := fun _ => h.of_eq (by simp) (by simp) (by simp) (by simp)
  backoffExpiry := fun _ _ => h.of_eq rfl id rfl rfl
  txCollision := fun _ _ => h.of_eq (by simp) (by simp) (by simp) (by simp)
  txSuccess := fun _ _ => h.of_eq (by simp) (by simp) (by simp) (by simp)
  lineStuck := fun _ _ => h.of_eq (by simp) (by simp) (by simp) (by simp)
  irqnPulseEnd := fun _ => h.of_eq rfl id rfl rfl
  startBit := fun _ _ => h.of_eq rfl id rfl rfl

end

/-! ### The settled statement -/

/-- Settles O58: a cycle event by its transition and its accounting (`MeterOk.cycle`), every other command by what it leaves. -/
theorem stepKeepsMetering : Obligations.StepKeepsMetering := by
  unfold Obligations.StepKeepsMetering
  intro s t held h hstep
  refine step_keeps hstep h (fun _ _ hu => hu.of_eq rfl id rfl rfl) ?_ fun q =>
    MeteringOk.preserves (h.of_eq rfl id rfl rfl) (held.with_pending q)
  exact h.of_eq (by simp) (by simp) (by simp) (by simp)

end Sys2Proof.Machine

/-! SUPPORT. WRITE ITEM, HOLIDAY_ADD and HOLIDAY_CLEAR (R37, R176, R177, R197): how a write is judged by the kind of its item,
and what a taken write leaves. -/

namespace Sys2Proof.Machine

/-! ### Kinds of item (R177) -/

section
variable (c : Calendar) (low high v : Nat) (store : Nat → Items)

theorem clampedWrite_of_below (h : v < low) :
    clampedWrite c low high v store = ⟨store low, c, .clamped⟩ := by
  have hne : low ≠ v := by omega
  simp [clampedWrite, clampNat, h, hne]

theorem clampedWrite_of_within (hl : low ≤ v) (hh : v ≤ high) :
    clampedWrite c low high v store = ⟨store v, c, .ok⟩ := by
  simp [clampedWrite, clampNat, Nat.not_lt.mpr hl, Nat.not_lt.mpr hh]

theorem clampedWrite_of_above (hlh : low ≤ high) (h : high < v) :
    clampedWrite c low high v store = ⟨store high, c, .clamped⟩ := by
  have hlow : ¬v < low := by omega
  have hne : high ≠ v := by omega
  simp [clampedWrite, clampNat, h, hlow, hne]

end

theorem inRange_of_mem {low high n : Nat} (h : low ≤ n ∧ n ≤ high) : inRange low high n = some n := by
  simp [inRange, h]

theorem inRange_of_not_mem {low high n : Nat} (h : ¬(low ≤ n ∧ n ≤ high)) : inRange low high n = none := by
  simp only [inRange, if_neg h]

theorem eq_of_inRange {low high n k : Nat} (h : inRange low high n = some k) : k = n ∧ low ≤ n ∧ n ≤ high := by
  unfold inRange at h
  split at h
  · next hin => cases h; exact ⟨rfl, hin⟩
  · cases h

/-! ### The write of each code (R197) -/

section
variable (i : Items) (c : Calendar) (value : BitVec 32)

theorem judgeItemWrite_weekday {n : Nat} (hn : n < 6) :
    judgeItemWrite i c (BitVec.ofNat 8 (0x10 + n)) value =
      some ⟨i, { c with weekday := c.weekday.setItem (value.extractLsb' 0 16) n }, .ok⟩ := by
  interval_cases n <;> rfl

theorem judgeItemWrite_weekend {n : Nat} (hn : n < 6) :
    judgeItemWrite i c (BitVec.ofNat 8 (0x18 + n)) value =
      some ⟨i, { c with weekend := c.weekend.setItem (value.extractLsb' 0 16) n }, .ok⟩ := by
  interval_cases n <;> rfl

theorem judgeItemWrite_rateHeat {b : Nat} (hb : b < 4) :
    judgeItemWrite i c (BitVec.ofNat 8 (0x28 + b)) value =
      some ⟨{ i with rate := { i.rate with heat := i.rate.heat.modify (fun _ => lowOctets value) b } }, c, .ok⟩ := by
  interval_cases b <;> rfl

theorem judgeItemWrite_rateCool {b : Nat} (hb : b < 4) :
    judgeItemWrite i c (BitVec.ofNat 8 (0x2C + b)) value =
      some ⟨{ i with rate := { i.rate with cool := i.rate.cool.modify (fun _ => lowOctets value) b } }, c, .ok⟩ := by
  interval_cases b <;> rfl

theorem judgeItemWrite_epoch :
    judgeItemWrite i c 0x0D value =
      some
        (match inRange 0 6 value.toNat with
        | some n => ⟨i, { c with epochWeekday := n }, .ok⟩
        | none => ⟨i, c, .badValue⟩) := rfl

/-- R197: the codes between and past the items' codes name no item. -/
theorem judgeItemWrite_of_noItem {code : Octet}
    (h : code.toNat = 0 ∨ code.toNat = 0x0F ∨ code.toNat = 0x16 ∨ code.toNat = 0x17 ∨ code.toNat = 0x1E ∨
      code.toNat = 0x1F ∨ 0x22 ≤ code.toNat ∧ code.toNat ≤ 0x27 ∨ 0x30 ≤ code.toNat) :
    judgeItemWrite i c code value = none := by
  have hweekday : ¬(0x10 ≤ code.toNat ∧ code.toNat ≤ 0x15) := by omega
  have hweekend : ¬(0x18 ≤ code.toNat ∧ code.toNat ≤ 0x1D) := by omega
  have hrateHeat : ¬(0x28 ≤ code.toNat ∧ code.toNat ≤ 0x2B) := by omega
  have hrateCool : ¬(0x2C ≤ code.toNat ∧ code.toNat ≤ 0x2F) := by omega
  unfold judgeItemWrite
  dsimp only
  split
  case h_17 => rw [if_neg hweekday, if_neg hweekend, if_neg hrateHeat, if_neg hrateCool]
  all_goals omega

end

theorem SlotMap.setItem_item (m : SlotMap) (v : BitVec 16) {n k : Nat} (hn : n < 6) (hk : k < 6) :
    (m.setItem v n).item k = if k = n then v else m.item k := by
  interval_cases n <;> interval_cases k <;> rfl

theorem PerBand.modify_get {α : Type} (f : α → α) (x : PerBand α) {b k : Nat} (hb : b < 4) (hk : k < 4) :
    (x.modify f b).get k = if k = b then f (x.get k) else x.get k := by
  interval_cases b <;> interval_cases k <;> rfl

theorem toNat_lowHalf (value : BitVec 32) : (value.extractLsb' 0 16).toNat = value.toNat % 65536 := by
  simp [BitVec.extractLsb'_toNat]

/-! ### Taking WRITE ITEM (R176) -/

theorem exec_writeItem (code : Octet) (value : BitVec 32) (s : State) :
    exec (.writeItem code value) s = takeCommand (unconfiguredOnly 0 (writeItemEffect code value)) s := rfl

section
variable {s : State} {code : Octet} {value : BitVec 32}

theorem rateChanged_of_other {x : Status} (h : ¬(code = lineRateCode ∧ x = .ok)) : s.rateChanged code x = s := by
  rw [State.rateChanged, if_neg h]

theorem exec_writeItem_of_commissioned (hopen : s.portOpen) (hs : s.station.state ≠ .unconfigured) :
    exec (.writeItem code value) s = .next (s.answered .notNow []) := by
  rw [exec_writeItem]
  exact takeCommand_of_statusOnly hopen (unconfiguredOnly_of_commissioned hs)

theorem exec_writeItem_of_noItem (hopen : s.portOpen) (hs : s.station.state = .unconfigured)
    (h : judgeItemWrite s.items s.calendar code value = none) :
    exec (.writeItem code value) s = .next (s.answered .badItem []) := by
  rw [exec_writeItem]
  refine takeCommand_of_statusOnly hopen ?_
  rw [unconfiguredOnly_of_unconfigured hs, writeItemEffect, h]

/-- R176: a judged write of any item but a taken LINE_RATE stores and answers. -/
theorem exec_writeItem_of_judged {w : ItemWrite} (hopen : s.portOpen) (hs : s.station.state = .unconfigured)
    (h : judgeItemWrite s.items s.calendar code value = some w) (hrate : ¬(code = lineRateCode ∧ w.status = .ok)) :
    exec (.writeItem code value) s =
      .next ({ s with items := w.items, calendar := w.calendar }.answered w.status []) := by
  rw [exec_writeItem]
  refine takeCommand_of_respond hopen ?_
  rw [unconfiguredOnly_of_unconfigured hs, writeItemEffect, h]
  dsimp only
  rw [rateChanged_of_other hrate]
  rfl

/-- R111, R148: a taken LINE_RATE drops a Line Test, leaves the transmitter IDLE and puts the receiver on or off anew. -/
theorem exec_writeItem_lineRate {rate : LineRate} (hopen : s.portOpen) (hs : s.station.state = .unconfigured)
    (h : lineRateOfBaud value.toNat = some rate) :
    exec (.writeItem 0x0B value) s =
      .next
        (({ s with items := { s.items with lineRate := rate } }.dropLineTest.restartReceiver).answered .ok []) := by
  have hjudged : judgeItemWrite s.items s.calendar 0x0B value =
      some ⟨{ s.items with lineRate := rate }, s.calendar, .ok⟩ := by
    have hcode : judgeItemWrite s.items s.calendar 0x0B value =
      some (enumeratedWrite s.items s.calendar (lineRateOfBaud value.toNat) fun r => { s.items with lineRate := r }) := rfl
    rw [hcode, h]
    rfl
  rw [exec_writeItem]
  refine takeCommand_of_respond hopen ?_
  rw [unconfiguredOnly_of_unconfigured hs, writeItemEffect, hjudged]
  rfl

end

/-! ### The Holiday List (R37) -/

theorem ascending_insertAscending {l : List Nat} (h : Ascending l) (x : Nat) : Ascending (insertAscending x l) := by
  induction l with
  | nil => exact List.pairwise_singleton _ x
  | cons y ys ih =>
    obtain ⟨hy, hys⟩ := List.pairwise_cons.mp h
    unfold insertAscending
    split
    · next hlt => exact List.pairwise_cons.mpr ⟨fun z hz => by
        rcases List.mem_cons.mp hz with rfl | hz
        exacts [hlt, hlt.trans (hy z hz)], h⟩
    · next hle =>
      split
      · exact h
      · next hne =>
        refine List.pairwise_cons.mpr ⟨fun z hz => ?_, ih hys⟩
        rcases mem_insertAscending.mp hz with rfl | hz
        exacts [by omega, hy z hz]

section
variable {i : Items} {c : Calendar} {value : BitVec 32}

theorem addHoliday_of_above (h : 65535 < value.toNat) : addHoliday i c value = ⟨i, c, .badValue⟩ := by
  rw [addHoliday, if_pos h]

theorem addHoliday_of_mem (h : value.toNat ≤ 65535) (hm : value.toNat ∈ c.holidays) :
    addHoliday i c value = ⟨i, c, .ok⟩ := by
  rw [addHoliday, if_neg (by omega), if_pos (by simpa using hm)]

theorem addHoliday_of_full (h : value.toNat ≤ 65535) (hm : value.toNat ∉ c.holidays) (hf : 16 ≤ c.holidays.length) :
    addHoliday i c value = ⟨i, c, .badValue⟩ := by
  rw [addHoliday, if_neg (by omega), if_neg (by simpa using hm), if_neg (by omega)]

theorem addHoliday_of_new (h : value.toNat ≤ 65535) (hm : value.toNat ∉ c.holidays) (hf : c.holidays.length < 16) :
    addHoliday i c value = ⟨i, { c with holidays := insertAscending value.toNat c.holidays }, .ok⟩ := by
  rw [addHoliday, if_neg (by omega), if_neg (by simpa using hm), if_pos hf]

end

theorem exec_holidayAdd {s : State} {value : BitVec 32} (hopen : s.portOpen) (hs : s.station.state = .unconfigured)
    {w : ItemWrite} (h : addHoliday s.items s.calendar value = w) :
    exec (.holidayAdd value) s =
      .next ({ s with items := w.items, calendar := w.calendar }.answered w.status []) := by
  have hexec : exec (.holidayAdd value) s = takeCommand (unconfiguredOnly 0 (holidayAddEffect value)) s := rfl
  rw [hexec]
  refine takeCommand_of_respond hopen ?_
  rw [unconfiguredOnly_of_unconfigured hs, holidayAddEffect, h]
  rfl

theorem exec_holidayClear {s : State} (value : BitVec 32) (hopen : s.portOpen)
    (hs : s.station.state = .unconfigured) :
    exec (.holidayClear value) s =
      .next ({ s with calendar := { s.calendar with holidays := [] } }.answered .ok []) := by
  have hexec : exec (.holidayClear value) s = takeCommand (unconfiguredOnly 0 (holidayClearEffect value)) s := rfl
  rw [hexec]
  refine takeCommand_of_respond hopen ?_
  rw [unconfiguredOnly_of_unconfigured hs]
  rfl

/-! ### The receiver put on or off (R113) -/

/-- R113, R143: the receiver and the stuck timer after the receiver has been put on or off anew. -/
theorem State.restartReceiver_eq (s : State) :
    s.restartReceiver =
      { s with
        receiver :=
          { s.receiver with
            parser := if s.receiverOn then .waitGap else .off, gapTimer := 0, frame := [], charInProgress := false }
        transmitter :=
          { s.transmitter with stuckTimer := if s.receiverOn then 0 else s.transmitter.stuckTimer } } := by
  unfold State.restartReceiver
  cases s.receiverOn <;> rfl

theorem State.receiverOn_iff (s : State) :
    s.receiverOn = true ↔ s.station.supplyMode = .mains ∧
      (s.station.state ≠ .unconfigured ∨ s.transmitter.testMode ≠ .off) := by
  simp [State.receiverOn]

/-- R113: before COMMISSION the receiver is on in a line-test mode on mains. -/
theorem State.receiverOn_of_unconfigured {s : State} (h : s.station.state = .unconfigured) :
    s.receiverOn = decide (s.station.supplyMode = .mains ∧ s.transmitter.testMode ≠ .off) := by
  rw [Bool.eq_iff_iff, State.receiverOn_iff]
  simp [h]

/-- R148: a Line Test dropped in UNCONFIGURED, and the receiver put on or off anew. -/
theorem State.dropLineTest_restartReceiver (s : State) :
    s.dropLineTest.restartReceiver =
      { s with
        transmitter :=
          { s.transmitter with
            state := .idle, report := none, current := none, backoffSlots := 0, stuckTimer := 0
            readBack := .matched 0 }
        receiver :=
          { s.receiver with
            parser := if s.receiverOn then .waitGap else .off, gapTimer := 0, frame := [], charInProgress := false } } := by
  have hon : s.dropLineTest.receiverOn = s.receiverOn := rfl
  rw [State.restartReceiver_eq, hon]
  cases s.receiverOn <;> rfl

/-! ### The settled statements -/

/-- Settles O14: the write of each code by its kind, stored and answered as judged; LINE_RATE restarts the line besides. -/
theorem writeItemByKind : Obligations.WriteItemByKind := by
  refine ⟨fun s value hopen hs => ?items, fun s value hopen hs => ?lineRate,
    fun s code value hopen hs => exec_writeItem_of_commissioned hopen hs⟩
  case items =>
    intro v answers clamped refused
    have htaken {code : Nat} {w : ItemWrite} (hcode : BitVec.ofNat 8 code ≠ lineRateCode)
        (hj : judgeItemWrite s.items s.calendar (BitVec.ofNat 8 code) value = some w) :
        answers code w.items w.calendar w.status :=
      exec_writeItem_of_judged hopen hs hj fun h => hcode h.1
    have hclamped {code low high : Nat} {store : Nat → Items} (hcode : BitVec.ofNat 8 code ≠ lineRateCode)
        (hlh : low ≤ high)
        (hj : judgeItemWrite s.items s.calendar (BitVec.ofNat 8 code) value =
          some (clampedWrite s.calendar low high v store)) : clamped code low high store := by
      refine ⟨fun h => ?_, fun hl hh => ?_, fun h => ?_⟩
      · exact htaken hcode (hj.trans (congrArg some (clampedWrite_of_below _ _ _ _ _ h)))
      · exact htaken hcode (hj.trans (congrArg some (clampedWrite_of_within _ _ _ _ _ hl hh)))
      · exact htaken hcode (hj.trans (congrArg some (clampedWrite_of_above _ _ _ _ _ hlh h)))
    have henumerated {α : Type} {code : Nat} {found : Option α} {store : α → Items}
        (hcode : BitVec.ofNat 8 code ≠ lineRateCode)
        (hj : judgeItemWrite s.items s.calendar (BitVec.ofNat 8 code) value =
          some (enumeratedWrite s.items s.calendar found store)) :
        (∀ a, found = some a → answers code (store a) s.calendar .ok) ∧ (found = none → refused code) := by
      refine ⟨fun a ha => ?_, fun hnone => ?_⟩
      · exact htaken hcode (hj.trans (congrArg some (by rw [ha])))
      · exact htaken hcode (hj.trans (congrArg some (by rw [hnone])))
    refine ⟨@hclamped 0x03 1 64 _ (by decide) (by decide) rfl, @hclamped 0x06 1 10000 _ (by decide) (by decide) rfl,
      @hclamped 0x07 1 10000 _ (by decide) (by decide) rfl, @hclamped 0x08 0 200 _ (by decide) (by decide) rfl,
      @hclamped 0x0A 30 900 _ (by decide) (by decide) rfl, @hclamped 0x0C 2 60 _ (by decide) (by decide) rfl,
      @hclamped 0x0E 0 7 _ (by decide) (by decide) rfl, ?address, ?role, ?circuits,
      ?windowLength, ?epoch, @htaken 0x04 _ (by decide) rfl, fun n hn => ?weekday, fun n hn => ?weekend, fun b hb => ?heat,
      fun b hb => ?cool, fun code hcode hnone => ?noItem⟩
    case address =>
      obtain ⟨hfound, hmissing⟩ := henumerated (code := 0x01) (by decide) rfl
      split
      · next hin => exact hfound _ (inRange_of_mem hin)
      · next hout => exact hmissing (inRange_of_not_mem hout)
    case role =>
      obtain ⟨hfound, hmissing⟩ := henumerated (code := 0x02) (by decide) rfl
      split
      · next h1 => exact hfound _ (by rw [roleOfNat, if_pos h1])
      next h1 =>
      split
      · next h2 => exact hfound _ (by rw [roleOfNat, if_neg h1, if_pos h2])
      · next h2 => exact hmissing (by rw [roleOfNat, if_neg h1, if_neg h2])
    case circuits =>
      obtain ⟨hfound, hmissing⟩ := henumerated (code := 0x05) (by decide) rfl
      split
      · next h1 => exact hfound _ (by rw [circuitsOfNat, if_pos h1])
      next h1 =>
      split
      · next h2 => exact hfound _ (by rw [circuitsOfNat, if_neg h1, if_pos h2])
      next h2 =>
      split
      · next h3 => exact hfound _ (by rw [circuitsOfNat, if_neg h1, if_neg h2, if_pos h3])
      · next h3 => exact hmissing (by rw [circuitsOfNat, if_neg h1, if_neg h2, if_neg h3])
    case windowLength =>
      obtain ⟨hfound, hmissing⟩ := henumerated (code := 0x09) (by decide) rfl
      split
      · next h1 => exact hfound _ (by rw [windowLengthOfMinutes, if_pos h1])
      next h1 =>
      split
      · next h2 => exact hfound _ (by rw [windowLengthOfMinutes, if_neg h1, if_pos h2])
      next h2 =>
      split
      · next h3 => exact hfound _ (by rw [windowLengthOfMinutes, if_neg h1, if_neg h2, if_pos h3])
      next h3 =>
      split
      · next h4 => exact hfound _ (by rw [windowLengthOfMinutes, if_neg h1, if_neg h2, if_neg h3, if_pos h4])
      · next h4 => exact hmissing (by rw [windowLengthOfMinutes, if_neg h1, if_neg h2, if_neg h3, if_neg h4])
    case epoch =>
      have hcode := judgeItemWrite_epoch s.items s.calendar value
      split
      · next hle => exact htaken (by decide) (hcode.trans (by rw [inRange_of_mem ⟨Nat.zero_le _, hle⟩]))
      · next hgt => exact htaken (by decide) (hcode.trans (by rw [inRange_of_not_mem fun h => hgt h.2]))
    case weekday =>
      refine ⟨_, htaken (by interval_cases n <;> decide) (judgeItemWrite_weekday _ _ _ hn), ?_, fun k hk hne => ?_⟩
      · rw [SlotMap.setItem_item _ _ hn hn, if_pos rfl, toNat_lowHalf]
      · rw [SlotMap.setItem_item _ _ hn hk, if_neg hne]
    case weekend =>
      refine ⟨_, htaken (by interval_cases n <;> decide) (judgeItemWrite_weekend _ _ _ hn), ?_, fun k hk hne => ?_⟩
      · rw [SlotMap.setItem_item _ _ hn hn, if_pos rfl, toNat_lowHalf]
      · rw [SlotMap.setItem_item _ _ hn hk, if_neg hne]
    case heat =>
      refine ⟨_, htaken (by interval_cases b <;> decide) (judgeItemWrite_rateHeat _ _ _ hb), ?_, fun k hk hne => ?_⟩
      · rw [PerBand.modify_get _ _ hb hb, if_pos rfl]; rfl
      · rw [PerBand.modify_get _ _ hb hk, if_neg hne]
    case cool =>
      refine ⟨_, htaken (by interval_cases b <;> decide) (judgeItemWrite_rateCool _ _ _ hb), ?_, fun k hk hne => ?_⟩
      · rw [PerBand.modify_get _ _ hb hb, if_pos rfl]; rfl
      · rw [PerBand.modify_get _ _ hb hk, if_neg hne]
    case noItem =>
      have htoNat : (BitVec.ofNat 8 code).toNat = code := by rw [BitVec.toNat_ofNat, Nat.mod_eq_of_lt hcode]
      exact exec_writeItem_of_noItem hopen hs (judgeItemWrite_of_noItem _ _ _ (by rwa [htoNat]))
  case lineRate =>
    intro taken
    have htaken {rate : LineRate} (h : lineRateOfBaud value.toNat = some rate) : taken rate := by
      refine ⟨false, ?_⟩
      have hon : State.receiverOn { s with items := { s.items with lineRate := rate } } = s.receiverOn := rfl
      rw [exec_writeItem_lineRate hopen hs h, State.dropLineTest_restartReceiver, hon,
        State.receiverOn_of_unconfigured hs]
      simp only [decide_eq_true_eq]
    split
    · next h1 => exact htaken (by rw [lineRateOfBaud, if_pos h1])
    next h1 =>
    split
    · next h2 => exact htaken (by rw [lineRateOfBaud, if_neg h1, if_pos h2])
    next h2 =>
    split
    · next h3 => exact htaken (by rw [lineRateOfBaud, if_neg h1, if_neg h2, if_pos h3])
    next h3 =>
    split
    · next h4 => exact htaken (by rw [lineRateOfBaud, if_neg h1, if_neg h2, if_neg h3, if_pos h4])
    · next h4 =>
      have hjudged : judgeItemWrite s.items s.calendar 0x0B value =
          some (enumeratedWrite s.items s.calendar (lineRateOfBaud value.toNat) fun r => { s.items with lineRate := r }) :=
        rfl
      rw [lineRateOfBaud, if_neg h1, if_neg h2, if_neg h3, if_neg h4] at hjudged
      exact exec_writeItem_of_judged hopen hs hjudged fun h => by cases h.2

/-- Settles O15: the four cases of HOLIDAY_ADD, and HOLIDAY_CLEAR. -/
theorem holidayListWrites : Obligations.HolidayListWrites := by
  unfold Obligations.HolidayListWrites
  intro s value hopen hs
  refine ⟨fun h => exec_holidayAdd hopen hs (addHoliday_of_above h),
    fun h hm => exec_holidayAdd hopen hs (addHoliday_of_mem h hm),
    fun h hm hf => exec_holidayAdd hopen hs (addHoliday_of_full h hm hf), fun h hm hf => ?_,
    exec_holidayClear value hopen hs⟩
  exact ⟨_, exec_holidayAdd hopen hs (addHoliday_of_new h hm hf), fun d => mem_insertAscending,
    length_insertAscending hm, fun hasc => ascending_insertAscending hasc _⟩

end Sys2Proof.Machine

/-! SUPPORT. The ranges of items and calendar (R37, R177), of the Record Queue (R100) and of every saturating field (R55, R76, R97,
R102, R105, R110, R131, R151) through every command. -/

namespace Sys2Proof.Machine

/-! ### Items and calendar (R37, R177) -/

/-- R37, R177: every item and the calendar in their ranges, whatever the station state. -/
structure ItemsFit (i : Items) (c : Calendar) : Prop where
  address : ∀ a, i.stationAddress = some a → 1 ≤ a ∧ a ≤ 64
  expected : 1 ≤ i.expected ∧ i.expected ≤ 64
  weight : i.weight < 65536
  pulse : ∀ p, 1 ≤ i.pulse.get p ∧ i.pulse.get p ≤ 10000
  dtCutoff : i.dtCutoff ≤ 200
  grace : 30 ≤ i.grace ∧ i.grace ≤ 900
  skewLimit : 2 ≤ i.skewLimit ∧ i.skewLimit ≤ 60
  queueAlertLevel : i.queueAlertLevel ≤ 7
  epochWeekday : c.epochWeekday ≤ 6
  rate : ∀ p b, (i.rate.get p).get b < 65536
  holidays : Ascending c.holidays ∧ c.holidays.length ≤ 16 ∧ ∀ d ∈ c.holidays, d < 65536

theorem itemsOk_iff (s : State) :
    ItemsOk s ↔ ItemsFit s.items s.calendar ∧
      (s.station.state ≠ .unconfigured → s.items.grace ≤ s.items.length.seconds / 2) :=
  ⟨fun h => ⟨⟨h.address, h.expected, h.weight, h.pulse, h.dtCutoff, h.grace, h.skewLimit, h.queueAlertLevel,
    h.epochWeekday, h.rate, h.holidays⟩, h.clamped⟩,
   fun ⟨h, hc⟩ => ⟨h.address, h.expected, h.weight, h.pulse, h.dtCutoff, h.grace, hc, h.skewLimit, h.queueAlertLevel,
    h.epochWeekday, h.rate, h.holidays⟩⟩

theorem ItemsOk.of_eq {s t : State} (h : ItemsOk s) (hi : t.items = s.items) (hc : t.calendar = s.calendar)
    (hs : s.station.state = .unconfigured → t.station.state = .unconfigured) : ItemsOk t := by
  rw [itemsOk_iff] at h ⊢
  rw [hi, hc]
  exact ⟨h.1, fun hn => h.2 fun hu => hn (hs hu)⟩

theorem ItemsOk.of_unconfigured {t : State} (h : ItemsFit t.items t.calendar) (hs : t.station.state = .unconfigured) :
    ItemsOk t := (itemsOk_iff t).mpr ⟨h, fun hn => absurd hs hn⟩

theorem lowOctets_lt (v : BitVec 32) : lowOctets v < 65536 := Nat.mod_lt _ (by decide)

/-- A property of the four bands holds at every band number, one above 3 reading band 3. -/
theorem PerBand.forall_get {α : Type} {P : α → Prop} {x : PerBand α} :
    (∀ b, P (x.get b)) ↔ P x.band0 ∧ P x.band1 ∧ P x.band2 ∧ P x.band3 := by
  refine ⟨fun h => ⟨h 0, h 1, h 2, h 3⟩, fun ⟨h0, h1, h2, h3⟩ b => ?_⟩
  unfold PerBand.get
  split
  exacts [h0, h1, h2, h3]

theorem PerBand.modify_forall {α : Type} {P : α → Prop} {x : PerBand α} {f : α → α} (hx : ∀ b, P (x.get b))
    (hf : ∀ a, P a → P (f a)) (n b : Nat) : P ((x.modify f n).get b) := by
  revert b
  rw [PerBand.forall_get] at hx ⊢
  obtain ⟨h0, h1, h2, h3⟩ := hx
  unfold PerBand.modify
  split
  exacts [⟨hf _ h0, h1, h2, h3⟩, ⟨h0, hf _ h1, h2, h3⟩, ⟨h0, h1, hf _ h2, h3⟩, ⟨h0, h1, h2, hf _ h3⟩]

section
variable {i : Items} {c : Calendar} (h : ItemsFit i c)
include h

theorem ItemsFit.enumerated {α : Type} {found : Option α} {store : α → Items}
    (hstore : ∀ a, found = some a → ItemsFit (store a) c) :
    ItemsFit (enumeratedWrite i c found store).items (enumeratedWrite i c found store).calendar := by
  unfold enumeratedWrite
  split
  exacts [hstore _ rfl, h]

omit h in
theorem ItemsFit.clamped {low high v : Nat} {store : Nat → Items} (hlh : low ≤ high)
    (hstore : ∀ n, low ≤ n → n ≤ high → ItemsFit (store n) c) :
    ItemsFit (clampedWrite c low high v store).items (clampedWrite c low high v store).calendar := by
  have hrange : low ≤ clampNat low high v ∧ clampNat low high v ≤ high := by
    unfold clampNat
    split <;> (try split) <;> omega
  exact hstore _ hrange.1 hrange.2

theorem ItemsFit.addHoliday (value : BitVec 32) :
    ItemsFit (addHoliday i c value).items (addHoliday i c value).calendar := by
  unfold Machine.addHoliday
  split
  · exact h
  · next hv =>
    split
    · exact h
    · next hm =>
      split
      · next hf =>
        obtain ⟨hasc, hlen, hlt⟩ := h.holidays
        refine { h with holidays := ⟨ascending_insertAscending hasc _, ?_, fun d hd => ?_⟩ }
        · rw [length_insertAscending (by simpa using hm)]; omega
        · rcases mem_insertAscending.mp hd with rfl | hd
          exacts [by omega, hlt d hd]
      · exact h

theorem ItemsFit.clearHolidays : ItemsFit (clearHolidays i c).items (clearHolidays i c).calendar :=
  { h with holidays := ⟨List.Pairwise.nil, Nat.zero_le _, fun _ hd => by cases hd⟩ }

/-- R37, R177: every write stores values in their ranges. -/
theorem ItemsFit.judged {code : Octet} {value : BitVec 32} {w : ItemWrite}
    (hw : judgeItemWrite i c code value = some w) : ItemsFit w.items w.calendar := by
  unfold judgeItemWrite at hw
  dsimp only at hw
  split at hw
  case h_17 =>
    repeat' split at hw
    · cases hw; exact { h with }
    · cases hw; exact { h with }
    · cases hw
      exact { h with
        rate := fun p b => by
          cases p
          exacts [PerBand.modify_forall (P := (· < 65536)) (h.rate .heat) (fun _ _ => lowOctets_lt value) _ b, h.rate .cool b] }
    · cases hw
      exact { h with
        rate := fun p b => by
          cases p
          exacts [h.rate .heat b, PerBand.modify_forall (P := (· < 65536)) (h.rate .cool) (fun _ _ => lowOctets_lt value) _ b] }
    · cases hw
  all_goals cases hw
  case h_1 =>
    exact h.enumerated fun a ha => by
      obtain ⟨rfl, hin⟩ := eq_of_inRange ha
      exact { h with address := fun b hb => by cases hb; exact hin }
  case h_2 => exact h.enumerated fun _ _ => { h with }
  case h_3 => exact .clamped (by decide) fun n hl hh => { h with expected := ⟨hl, hh⟩ }
  case h_4 => exact { h with weight := lowOctets_lt value }
  case h_5 => exact h.enumerated fun _ _ => { h with }
  case h_6 =>
    exact .clamped (by decide) fun n hl hh => { h with
      pulse := fun p => by
        cases p
        exacts [⟨hl, hh⟩, h.pulse .cool] }
  case h_7 =>
    exact .clamped (by decide) fun n hl hh => { h with
      pulse := fun p => by
        cases p
        exacts [h.pulse .heat, ⟨hl, hh⟩] }
  case h_8 => exact .clamped (by decide) fun n _ hh => { h with dtCutoff := hh }
  case h_9 => exact h.enumerated fun _ _ => { h with }
  case h_10 => exact .clamped (by decide) fun n hl hh => { h with grace := ⟨hl, hh⟩ }
  case h_11 => exact h.enumerated fun _ _ => { h with }
  case h_12 => exact .clamped (by decide) fun n hl hh => { h with skewLimit := ⟨hl, hh⟩ }
  case h_13 =>
    split
    · next n hn =>
      obtain ⟨rfl, hin⟩ := eq_of_inRange hn
      exact { h with epochWeekday := hin.2 }
    · exact h
  case h_14 => exact .clamped (by decide) fun n _ hh => { h with queueAlertLevel := hh }
  case h_15 => exact h.addHoliday value
  case h_16 => exact h.clearHolidays

end

end Sys2Proof.Machine

/-! SUPPORT. The saturating fields through every command, block by block: contexts, records, receiver, transmitter and Peer
Table, and with them the settling of O57. -/

namespace Sys2Proof.Machine

/-! ### Saturating sums (00_scope.md section 7) -/

theorem satAdd_lt (bits a b : Nat) : satAdd bits a b < 2 ^ bits := by
  have := Nat.two_pow_pos bits
  unfold satAdd maxOf
  omega

theorem bump_lt (n : Nat) : bump n < 65536 := satAdd_lt 16 n 1

theorem bumpIf_lt {n : Nat} (h : n < 65536) (b : Bool) : bumpIf b n < 65536 := by
  unfold bumpIf
  split
  exacts [bump_lt n, h]

theorem Plant.forall_iff {P : Plant → Prop} : (∀ p, P p) ↔ P .heat ∧ P .cool :=
  ⟨fun h => ⟨h .heat, h .cool⟩, fun ⟨hh, hc⟩ p => by cases p; exacts [hh, hc]⟩

/-! ### Contexts and records (R75 to R79, R91, R97, R100 to R105) -/

/-- R55, R76, R89: the figures of both contexts, and the snapshot of CLOSING. -/
structure ContextsFit (k : Contexts) : Prop where
  current : ∀ c, k.current = some c → FiguresFit c.figures
  closing : ∀ c, k.closing = some c → FiguresFit c.figures ∧ ∀ e, c.rxSnapshot = some e → RxErrorsFit e

/-- R97, R100 to R105: the queue's level and its slot, and every record held. -/
structure RecordsFit (q : RecordQueue) : Prop where
  level : q.queue.length ≤ 8
  slot : q.overflow.isSome = true → q.queue.length = 8
  queue : ∀ r ∈ q.queue, RecordFits r
  overflow : ∀ r, q.overflow = some r → RecordFits r
  discarded : q.discarded < 65536

theorem bandsFit_iff (x : PerBand Nat) :
    BandsFit x ↔ x.band0 < 2 ^ 48 ∧ x.band1 < 2 ^ 48 ∧ x.band2 < 2 ^ 48 ∧ x.band3 < 2 ^ 48 :=
  PerBand.forall_get (P := (· < 2 ^ 48))

theorem figuresFit_fresh : FiguresFit .fresh where
  energy := by simp [Plant.forall_iff, bandsFit_iff, Figures.fresh, PerPlant.get, PerPlant.both, PerBand.all]
  commonShare := by simp [Plant.forall_iff, bandsFit_iff, Figures.fresh, PerPlant.get, PerPlant.both, PerBand.all]
  complexEnergy := by simp [Plant.forall_iff, Figures.fresh, PerPlant.get, PerPlant.both]
  unmetered := by decide
  reverseCount := by decide
  counts := by decide
  dispositions := by decide
  addressClashes := by decide

theorem addBand_fits {x : PerBand Nat} (h : BandsFit x) (b add : Nat) : BandsFit (addBand b add x) :=
  PerBand.modify_forall (P := (· < 2 ^ 48)) h (fun n _ => satAdd_lt 48 n add) b

/-- R75 to R79: a close keeps every figure within its field. -/
theorem FiguresFit.close {f : Figures} (h : FiguresFit f) (i : Items) (b : Nat) (w : WindowEntry) (quietPeers : Nat) :
    FiguresFit (f.close i b w quietPeers) where
  energy := fun p => by rw [Figures.close_energy]; exact addBand_fits (h.energy p) _ _
  commonShare := fun p => by rw [Figures.close_commonShare]; exact addBand_fits (h.commonShare p) _ _
  complexEnergy := fun p => by rw [Figures.close_complexEnergy]; exact satAdd_lt 48 _ _
  unmetered := satAdd_lt 48 _ _
  reverseCount := satAdd_lt 32 _ _
  counts := by
    obtain ⟨-, hcomplete, hestimated, hfaulted, hbackup, hpartial, hun, -, -⟩ := h.counts
    exact ⟨bump_lt _, bumpIf_lt hcomplete _, bumpIf_lt hestimated _, bumpIf_lt hfaulted _, bumpIf_lt hbackup _,
      bumpIf_lt hpartial _, bumpIf_lt hun _, satAdd_lt 16 _ _, satAdd_lt 16 _ _⟩
  dispositions := h.dispositions
  addressClashes := h.addressClashes

theorem RecordFits.build {c : PeriodContext} (h : FiguresFit c.figures) {rx : RxErrors} (hrx : RxErrorsFit rx)
    (kind : RecordKind) (i : Items) : RecordFits (buildRecord kind i c rx) where
  figures := h
  rxErrors := hrx
  merged := ⟨le_refl 1, by show 1 < 65536; decide⟩
  energyCost := fun p => by
    rw [buildRecord_energyCost]
    exact lt_of_le_of_lt (min_le_left _ _) (by decide)
  commonCost := fun p => by
    rw [buildRecord_commonCost]
    exact lt_of_le_of_lt (min_le_left _ _) (by decide)

theorem zip_satAdd_fits (x y : PerBand Nat) : BandsFit (PerBand.zip (satAdd 48) x y) :=
  (bandsFit_iff _).mpr ⟨satAdd_lt 48 _ _, satAdd_lt 48 _ _, satAdd_lt 48 _ _, satAdd_lt 48 _ _⟩

/-- R102: every sum of a merge saturates in its own field. -/
theorem RecordFits.merge (older newer : Record) :
    RecordFits (mergeRecords older newer) where
  figures :=
    { energy := fun p => by cases p; exacts [zip_satAdd_fits _ _, zip_satAdd_fits _ _]
      commonShare := fun p => by cases p; exacts [zip_satAdd_fits _ _, zip_satAdd_fits _ _]
      complexEnergy := fun p => by cases p; exacts [satAdd_lt 48 _ _, satAdd_lt 48 _ _]
      unmetered := satAdd_lt 48 _ _
      reverseCount := satAdd_lt 32 _ _
      counts := ⟨satAdd_lt 16 _ _, satAdd_lt 16 _ _, satAdd_lt 16 _ _, satAdd_lt 16 _ _, satAdd_lt 16 _ _,
        satAdd_lt 16 _ _, satAdd_lt 16 _ _, satAdd_lt 16 _ _, satAdd_lt 16 _ _⟩
      dispositions := ⟨satAdd_lt 16 _ _, satAdd_lt 16 _ _, satAdd_lt 16 _ _⟩
      addressClashes := satAdd_lt 16 _ _ }
  rxErrors := ⟨satAdd_lt 16 _ _, satAdd_lt 16 _ _, satAdd_lt 16 _ _, satAdd_lt 16 _ _⟩
  merged := ⟨by show 1 ≤ min (maxOf 16) (older.mergedCount + 1); simp [maxOf], bump_lt _⟩
  energyCost := fun p => by cases p; exacts [satAdd_lt 48 _ _, satAdd_lt 48 _ _]
  commonCost := fun p => by cases p; exacts [satAdd_lt 48 _ _, satAdd_lt 48 _ _]

theorem recordsFit_reset : RecordsFit .reset where
  level := by decide
  slot := by simp [RecordQueue.reset]
  queue := by simp [RecordQueue.reset]
  overflow := by simp [RecordQueue.reset]
  discarded := by decide

section
variable {s : State} (h : RecordsFit s.records)
include h

/-- R100: a record enters a queue with room and an unused slot. -/
theorem RecordsFit.enqueue {r : Record} (hr : RecordFits r) (hroom : s.records.queue.length < 8) :
    RecordsFit (s.enqueue r).records := by
  have hslot : s.records.overflow = none := by
    by_contra hne
    exact absurd (h.slot (Option.isSome_iff_ne_none.mpr hne)) (by omega)
  rw [State.enqueue_eq]
  exact
    { level := by simpa using hroom
      slot := by simp [hslot]
      queue := by
        intro x hx
        rcases List.mem_append.mp hx with hx | hx
        · exact h.queue x hx
        · rw [List.mem_singleton.mp hx]
          exact hr
      overflow := by simp [hslot]
      discarded := h.discarded }

theorem RecordsFit.offerFinal {r : Record} (hr : RecordFits r) : RecordsFit (s.offerFinal r).records := by
  unfold State.offerFinal
  split
  · next hroom => exact h.enqueue hr hroom
  · next hfull =>
    have hlevel : s.records.queue.length = 8 := le_antisymm h.level (by simpa [queuePlaces] using hfull)
    refine { h with slot := fun _ => hlevel, overflow := fun x hx => ?_ }
    simp only [State.raise_records, Option.some.injEq] at hx
    subst hx
    split
    · exact hr
    · exact .merge _ r

theorem RecordsFit.snapshot (hk : ContextsFit s.contexts) (hrx : RxErrorsFit s.receiver.errors) :
    RecordsFit (snapshotEffect s).1.records := by
  unfold snapshotEffect
  split
  · exact h
  · next hroom =>
    split
    · next c hc => exact h.enqueue (.build (hk.current c hc) hrx _ _) (by simpa [queuePlaces] using hroom)
    · exact h

/-- R104: the head leaves, and the slot's record takes the freed place. -/
theorem RecordsFit.release : RecordsFit (releaseEffect s).1.records := by
  unfold releaseEffect
  split
  · exact h
  · next x rest hq =>
    have hlevel := h.level
    rw [hq, List.length_cons] at hlevel
    have hrest : ∀ r ∈ rest, RecordFits r := fun r hr => h.queue r (hq ▸ List.mem_cons_of_mem x hr)
    split
    · next ho =>
      exact { h with
        level := by show rest.length ≤ 8; omega
        slot := by simp [ho]
        queue := hrest }
    · next r ho =>
      have hfreed : RecordsFit { s.records with queue := rest, overflow := none } :=
        { h with
          level := by show rest.length ≤ 8; omega
          slot := by simp
          queue := hrest
          overflow := by simp }
      exact RecordsFit.enqueue (s := { s with records := { s.records with queue := rest, overflow := none } }) hfreed
        (h.overflow r ho) (by show rest.length < 8; omega)

theorem RecordsFit.finishDay (hk : ContextsFit s.contexts) :
    RecordsFit s.finishDay.records ∧ ContextsFit s.finishDay.contexts := by
  unfold State.finishDay
  split
  · exact ⟨h, hk⟩
  · next c hc =>
    obtain ⟨hfigures, hsnapshot⟩ := hk.closing c hc
    have hrx : RxErrorsFit (c.rxSnapshot.getD ⟨0, 0, 0, 0⟩) := by
      cases hx : c.rxSnapshot with
      | none => exact ⟨by decide, by decide, by decide, by decide⟩
      | some e => exact hsnapshot e hx
    refine ⟨RecordsFit.offerFinal (s := { s with contexts := { s.contexts with closing := none } }) h
      (.build hfigures hrx _ _), ?_⟩
    simpa using { hk with closing := by simp : ContextsFit { s.contexts with closing := none } }

end

theorem ContextsFit.map_current {k : Contexts} (h : ContextsFit k) {f : PeriodContext → PeriodContext}
    (hf : ∀ c, FiguresFit c.figures → FiguresFit (f c).figures) : ContextsFit { k with current := k.current.map f } where
  current := fun c hc => by
    obtain ⟨c, hk, rfl⟩ := Option.map_eq_some_iff.mp hc
    exact hf c (h.current c hk)
  closing := h.closing

theorem ContextsFit.afterClose {s : State} (h : ContextsFit s.contexts) (w : WindowEntry) :
    ContextsFit (s.contextsAfterClose w) := by
  have hfold : ∀ c : PeriodContext, FiguresFit c.figures →
      FiguresFit (c.close s.items s.calendar w (countPeers s.peers .quiet)).figures := fun _ hc => hc.close _ _ _ _
  unfold State.contextsAfterClose
  dsimp only
  split
  · refine { h with closing := fun c hc => ?_ }
    obtain ⟨c, hk, rfl⟩ := Option.map_eq_some_iff.mp hc
    exact ⟨hfold c (h.closing c hk).1, (h.closing c hk).2⟩
  · exact h.map_current hfold

theorem ContextsFit.countDisposition {k : Contexts} (h : ContextsFit k) (d : Disposition) :
    ContextsFit (k.countDisposition d) := by
  refine h.map_current fun c hc => { hc with dispositions := ?_ }
  obtain ⟨hlate, hduplicate, hfar⟩ := hc.dispositions
  cases d
  case accepted => exact ⟨hlate, hduplicate, hfar⟩
  case duplicate => exact ⟨hlate, bump_lt _, hfar⟩
  case late => exact ⟨bump_lt _, hduplicate, hfar⟩
  case farAhead => exact ⟨hlate, hduplicate, bump_lt _⟩

theorem ContextsFit.countClash {k : Contexts} (h : ContextsFit k) : ContextsFit k.countClash :=
  h.map_current fun _ hc => { hc with addressClashes := bump_lt _ }

theorem ContextsFit.rollOver {k : Contexts} (h : ContextsFit k) {e : RxErrors} (he : RxErrorsFit e) (day : Nat) :
    ContextsFit (k.rollOver day e) where
  current := fun c hc => by
    obtain ⟨-, -, rfl⟩ := Option.map_eq_some_iff.mp hc
    exact figuresFit_fresh
  closing := fun c hc => by
    obtain ⟨k, hk, rfl⟩ := Option.map_eq_some_iff.mp hc
    exact ⟨h.current k hk, fun x hx => (Option.some.inj hx) ▸ he⟩

theorem contextsFit_reset : ContextsFit .reset := ⟨by simp [Contexts.reset], by simp [Contexts.reset]⟩

theorem contextsFit_commission (day : Nat) : ContextsFit (.commission day) where
  current := fun c hc => by cases hc; exact figuresFit_fresh
  closing := by simp [Contexts.commission]

end Sys2Proof.Machine

/-! SUPPORT. Reception within the widths of its counters, and the settling of O57. -/

namespace Sys2Proof.Machine

/-! ### Receiver, transmitter and Peer Table (R110, R131, R151) -/

/-- R110: the eight counters of the receiver. -/
structure ReceiverFits (r : Receiver) : Prop where
  errors : RxErrorsFit r.errors
  counts : r.ignored < 65536 ∧ r.incompatible < 65536 ∧ r.addressClashes < 65536 ∧ r.testEchoes < 65536

/-- R131: the three counters of the transmitter. -/
def CountersFit (t : Transmitter) : Prop := t.framesSent < 65536 ∧ t.collisions < 65536 ∧ t.giveUps < 65536

/-- R151: the counts of every entry of the Peer Table. -/
def PeersFit (l : List PeerEntry) : Prop := ∀ p ∈ l, PeerCountsFit p

theorem ReceiverFits.of_eq {r q : Receiver} (h : ReceiverFits r) (he : q.errors = r.errors) (hi : q.ignored = r.ignored)
    (hn : q.incompatible = r.incompatible) (ha : q.addressClashes = r.addressClashes)
    (ht : q.testEchoes = r.testEchoes) : ReceiverFits q where
  errors := he ▸ h.errors
  counts := by rw [hi, hn, ha, ht]; exact h.counts

section
variable {r : Receiver} (h : ReceiverFits r)
include h

theorem ReceiverFits.framingError : ReceiverFits r.framingError := by
  obtain ⟨-, hstray, hlength, hcrc⟩ := h.errors
  exact { h with errors := ⟨bump_lt _, hstray, hlength, hcrc⟩ }

theorem ReceiverFits.strayError : ReceiverFits r.strayError := by
  obtain ⟨hframing, -, hlength, hcrc⟩ := h.errors
  exact { h with errors := ⟨hframing, bump_lt _, hlength, hcrc⟩ }

theorem ReceiverFits.lengthError (next : ParserState) : ReceiverFits (r.lengthError next) := by
  obtain ⟨hframing, hstray, -, hcrc⟩ := h.errors
  exact { h with errors := ⟨hframing, hstray, bump_lt _, hcrc⟩ }

theorem ReceiverFits.crcError : ReceiverFits r.crcError := by
  obtain ⟨hframing, hstray, hlength, -⟩ := h.errors
  exact { h with errors := ⟨hframing, hstray, hlength, bump_lt _⟩ }

theorem ReceiverFits.takeOctet (second : Nat) (octet : Octet) (stopBit : Bool) :
    ReceiverFits (r.takeOctet second octet stopBit) := by
  unfold Receiver.takeOctet
  repeat' split
  exacts [h, h, h, h.strayError, h.framingError, h.of_eq rfl rfl rfl rfl rfl, h.strayError, h.framingError,
    h.lengthError _, h.of_eq rfl rfl rfl rfl rfl]

theorem ReceiverFits.takeGap : ReceiverFits r.takeGap := by
  unfold Receiver.takeGap
  split
  exacts [h, h, h, h.of_eq rfl rfl rfl rfl rfl, h.of_eq rfl rfl rfl rfl rfl, h.lengthError _]

end

theorem mem_putPeer {e p : PeerEntry} {l : List PeerEntry} (h : p ∈ putPeer e l) : p = e ∨ p ∈ l := by
  induction l with
  | nil => exact .inl (List.mem_singleton.mp h)
  | cons q l ih =>
    unfold putPeer at h
    split at h
    · simpa using h
    split at h
    · rcases List.mem_cons.mp h with rfl | h
      exacts [.inl rfl, .inr (List.mem_cons_of_mem q h)]
    · rcases List.mem_cons.mp h with rfl | h
      · exact .inr List.mem_cons_self
      · exact (ih h).imp_right (List.mem_cons_of_mem q)

theorem PeersFit.put {l : List PeerEntry} (h : PeersFit l) {e : PeerEntry} (he : PeerCountsFit e) :
    PeersFit (putPeer e l) := fun p hp => by
  rcases mem_putPeer hp with rfl | hp
  exacts [he, h p hp]

theorem mem_of_findPeer {l : List PeerEntry} {a : Nat} {p : PeerEntry} (h : findPeer l a = some p) : p ∈ l :=
  List.mem_of_find?_eq_some h

/-- R153: the entry of a sender, found in the table or created with its counts at 0. -/
theorem PeersFit.peerOf {s : State} (h : PeersFit s.peers) (a : Nat) (roleCode : Octet) (weight : Nat) :
    PeerCountsFit (s.peerOf a roleCode weight) := by
  unfold State.peerOf
  cases hp : findPeer s.peers a with
  | none => exact ⟨Nat.zero_le 15, Nat.two_pow_pos 16, Nat.two_pow_pos 16, Nat.two_pow_pos 16, Nat.two_pow_pos 16⟩
  | some p => exact h p (mem_of_findPeer hp)

theorem PeerCountsFit.afterDisposition {p : PeerEntry} (h : PeerCountsFit p) (r : WindowReport) (index arrival : Nat)
    (d : Disposition) : PeerCountsFit (p.afterDisposition r index arrival d) := by
  obtain ⟨hmissed, haccepted, hlate, hduplicate, hfar⟩ := h
  cases d
  case accepted => exact ⟨Nat.zero_le _, bump_lt _, hlate, hduplicate, hfar⟩
  case duplicate => exact ⟨hmissed, haccepted, hlate, bump_lt _, hfar⟩
  case late => exact ⟨hmissed, haccepted, bump_lt _, hduplicate, hfar⟩
  case farAhead => exact ⟨hmissed, haccepted, hlate, hduplicate, bump_lt _⟩

theorem PeerCountsFit.miss {p : PeerEntry} (h : PeerCountsFit p) : PeerCountsFit p.miss := by
  have hcapped : min 15 (p.missed + 1) ≤ 15 := min_le_left _ _
  unfold PeerEntry.miss
  split
  exacts [⟨hcapped, h.2⟩, ⟨hcapped, h.2⟩, h, h]

theorem PeerEntry.afterNotice_counts (p : PeerEntry) (n : PresenceNotice) (own : Nat) :
    (p.afterNotice n own).missed = p.missed ∧ (p.afterNotice n own).accepted = p.accepted ∧
    (p.afterNotice n own).late = p.late ∧ (p.afterNotice n own).duplicate = p.duplicate ∧
    (p.afterNotice n own).farAhead = p.farAhead := by
  rw [PeerEntry.afterNotice_eq]
  exact ⟨rfl, rfl, rfl, rfl, rfl⟩

theorem PeerCountsFit.afterNotice {p : PeerEntry} (h : PeerCountsFit p) (n : PresenceNotice) (own : Nat) :
    PeerCountsFit (p.afterNotice n own) := by
  unfold PeerCountsFit
  obtain ⟨hm, ha, hl, hd, hf⟩ := p.afterNotice_counts n own
  rwa [hm, ha, hl, hd, hf]

theorem PeersFit.upkeep {l : List PeerEntry} (h : PeersFit l) (contributors : List Nat) :
    PeersFit (upkeep contributors l) := fun p hp => by
  obtain ⟨q, hq, rfl⟩ := List.mem_map.mp hp
  split
  exacts [h q hq, (h q hq).miss]

/-! ### Reception (R112 to R127) -/

/-- What reception counts in: contexts, receiver, transmitter and Peer Table. -/
structure ReceptionFits (s : State) : Prop where
  contexts : ContextsFit s.contexts
  receiver : ReceiverFits s.receiver
  counters : CountersFit s.transmitter
  peers : PeersFit s.peers

section
variable {s : State} (h : ReceptionFits s)
include h

theorem ReceptionFits.with_receiver {r : Receiver} (hr : ReceiverFits r) : ReceptionFits { s with receiver := r } :=
  { h with receiver := hr }

theorem ReceptionFits.addressClash : ReceptionFits s.addressClash := by
  obtain ⟨hignored, hincompatible, -, hechoes⟩ := h.receiver.counts
  exact { h with
    contexts := h.contexts.countClash
    receiver := { h.receiver with counts := ⟨hignored, hincompatible, bump_lt _, hechoes⟩ } }

theorem ReceptionFits.ignoreFrame : ReceptionFits s.ignoreFrame := by
  obtain ⟨-, hincompatible, hclashes, hechoes⟩ := h.receiver.counts
  exact h.with_receiver { h.receiver with counts := ⟨bump_lt _, hincompatible, hclashes, hechoes⟩ }

theorem ReceptionFits.echo (sequence : Nat) : ReceptionFits (s.echo sequence) := by
  obtain ⟨hignored, hincompatible, hclashes, -⟩ := h.receiver.counts
  exact h.with_receiver { h.receiver with counts := ⟨hignored, hincompatible, hclashes, bump_lt _⟩ }

theorem ReceptionFits.malformedFrame : ReceptionFits s.malformedFrame := h.with_receiver (h.receiver.lengthError _)

theorem ReceptionFits.handNotice (n : PresenceNotice) : ReceptionFits (s.handNotice n) where
  contexts := by simpa using h.contexts
  receiver := by simpa using h.receiver
  counters := by simpa using h.counters
  peers := by
    rw [State.handNotice_eq, State.afterPeerFrame_peers]
    exact h.peers.put ((h.peers.peerOf _ _ _).afterNotice _ _)

theorem ReceptionFits.handReport (r : WindowReport) : ReceptionFits (s.handReport r) := by
  have hp : PeerCountsFit ((s.peerOf r.sender r.roleCode r.weight).takeDigest r.digest s.station.digest) :=
    h.peers.peerOf r.sender r.roleCode r.weight
  obtain ⟨hignored, -, hclashes, hechoes⟩ := h.receiver.counts
  unfold State.handReport
  dsimp only
  split
  · exact { h with
      contexts := h.contexts.countDisposition _
      peers := h.peers.put (hp.afterDisposition _ _ _ _) }
  · exact
      { contexts := by simpa using h.contexts
        receiver := by
          simpa using { h.receiver with counts := ⟨hignored, bump_lt _, hclashes, hechoes⟩ : ReceiverFits
            { s.receiver with incompatible := bump s.receiver.incompatible } }
        counters := by simpa using h.counters
        peers := by simpa using h.peers.put hp }

theorem ReceptionFits.dispatch (kind : Octet) (payload : List Octet) : ReceptionFits (s.dispatch kind payload) := by
  unfold State.dispatch State.dispatchLineTest State.dispatchFromPeer
  dsimp only
  repeat' split
  exacts [h.malformedFrame, h.ignoreFrame, h.echo _, h.ignoreFrame, h.malformedFrame, h.malformedFrame, h.addressClash,
    h.handNotice _, h.addressClash, h.handReport _]

theorem ReceptionFits.judgeWaiting : ReceptionFits s.judgeWaiting := by
  unfold State.judgeWaiting State.judge
  repeat' split
  · refine ReceptionFits.dispatch ?_ _ _
    exact h.with_receiver (h.receiver.of_eq rfl rfl rfl rfl rfl)
  · exact h.with_receiver h.receiver.crcError
  · exact h

theorem ReceptionFits.startBit : ReceptionFits s.startBit where
  contexts := h.contexts
  receiver := h.receiver.of_eq rfl rfl rfl rfl rfl
  counters := by
    unfold State.startBit
    dsimp only
    split
    exacts [h.counters, h.counters]
  peers := h.peers

theorem ReceptionFits.character (octet : Octet) (stopBit : Bool) : ReceptionFits (s.character octet stopBit) := by
  have hstarted : ReceptionFits s.judgeWaiting.impliedStartBit := by
    unfold State.impliedStartBit
    split
    exacts [h.judgeWaiting, h.judgeWaiting.startBit]
  unfold State.character
  refine
    { contexts := hstarted.contexts
      receiver := ReceiverFits.takeOctet ?_ _ _ _
      counters := by simpa [CountersFit] using hstarted.counters
      peers := hstarted.peers }
  exact hstarted.receiver.of_eq rfl rfl rfl rfl rfl

theorem ReceptionFits.idleGap : ReceptionFits s.idleGap := by
  have hrested : ReceptionFits
      { s.judgeWaiting.seeLrx false with
        receiver := { (s.judgeWaiting.seeLrx false).receiver.takeGap with gapTimer := 4 } } :=
    h.judgeWaiting.with_receiver
      (((h.judgeWaiting.receiver.of_eq rfl rfl rfl rfl rfl : ReceiverFits (s.judgeWaiting.seeLrx false).receiver).takeGap).of_eq
        rfl rfl rfl rfl rfl)
  unfold State.idleGap
  dsimp only
  split
  exacts [{ hrested with }, hrested]

theorem ReceptionFits.readColliding : ReceptionFits s.readColliding := by
  rcases s.readColliding_cases with he | ⟨_, _, o, b, _, _, _, he⟩
  · rwa [he]
  · rw [he]
    exact { h.character o b with }

omit h in
theorem ReceptionFits.readBackRest (h : ReceptionFits s) : ReceptionFits s.readBackRest := by
  unfold State.readBackRest
  split
  · exact h
  · next htest =>
    clear htest
    generalize s.transmitter.octetsLeft = l
    induction l generalizing s with
    | nil => exact h
    | cons o l ih => exact ih (h.character o true)

end

end Sys2Proof.Machine

/-! SUPPORT. Every command within the ranges of items, queue and saturating fields, and the settling of O57. -/

namespace Sys2Proof.Machine

/-! ### The transmitter's three counters (R131) -/

theorem State.chooseCurrent_counters (s : State) :
    s.chooseCurrent.transmitter.framesSent = s.transmitter.framesSent ∧
    s.chooseCurrent.transmitter.collisions = s.transmitter.collisions ∧
    s.chooseCurrent.transmitter.giveUps = s.transmitter.giveUps := by
  simp

@[simp] theorem State.requestNotice_counters (s : State) (a : NoticeState) :
    (s.requestNotice a).transmitter.framesSent = s.transmitter.framesSent ∧
    (s.requestNotice a).transmitter.collisions = s.transmitter.collisions ∧
    (s.requestNotice a).transmitter.giveUps = s.transmitter.giveUps := by
  unfold State.requestNotice
  repeat' split
  all_goals simp

@[simp] theorem State.queueReport_counters (s : State) (k : ReportContent) :
    (s.queueReport k).transmitter.framesSent = s.transmitter.framesSent ∧
    (s.queueReport k).transmitter.collisions = s.transmitter.collisions ∧
    (s.queueReport k).transmitter.giveUps = s.transmitter.giveUps := by
  simp [State.queueReport]

@[simp] theorem State.periodicNotice_counters (s : State) (b : Bool) :
    (s.periodicNotice b).transmitter.framesSent = s.transmitter.framesSent ∧
    (s.periodicNotice b).transmitter.collisions = s.transmitter.collisions ∧
    (s.periodicNotice b).transmitter.giveUps = s.transmitter.giveUps := by
  unfold State.periodicNotice
  split
  all_goals simp

@[simp] theorem State.boundary_counters (s : State) :
    s.boundary.transmitter.framesSent = s.transmitter.framesSent ∧
    s.boundary.transmitter.collisions = s.transmitter.collisions ∧
    s.boundary.transmitter.giveUps = s.transmitter.giveUps := by
  unfold State.boundary State.boundaryWindows
  dsimp only
  repeat' split
  all_goals simp

@[simp] theorem State.graceExpiry_counters (s : State) :
    s.graceExpiry.transmitter.framesSent = s.transmitter.framesSent ∧
    s.graceExpiry.transmitter.collisions = s.transmitter.collisions ∧
    s.graceExpiry.transmitter.giveUps = s.transmitter.giveUps := by
  unfold State.graceExpiry State.settleAtExpiry State.withdrawStale Transmitter.markExpired
  dsimp only
  repeat' split
  all_goals simp

@[simp] theorem State.startSending_counters (s : State) :
    s.startSending.transmitter.framesSent = s.transmitter.framesSent ∧
    s.startSending.transmitter.collisions = s.transmitter.collisions ∧
    s.startSending.transmitter.giveUps = s.transmitter.giveUps := by
  simp [State.startSending]

theorem CountersFit.of_eq {t u : Transmitter} (h : CountersFit t)
    (hc : u.framesSent = t.framesSent ∧ u.collisions = t.collisions ∧ u.giveUps = t.giveUps) : CountersFit u := by
  obtain ⟨hframes, hcollisions, hgiveUps⟩ := hc
  exact ⟨hframes ▸ h.1, hcollisions ▸ h.2.1, hgiveUps ▸ h.2.2⟩

section
variable {s : State}

theorem CountersFit.giveUp (h : CountersFit s.transmitter) : CountersFit s.giveUp.transmitter := ⟨h.1, h.2.1, bump_lt _⟩

theorem CountersFit.frameCollision (h : CountersFit s.transmitter) (x : Option Slot) :
    CountersFit (s.frameCollision x).transmitter := by
  unfold State.frameCollision State.reportCollision State.noticeCollision
  repeat' split
  · exact h
  · exact h
  · exact CountersFit.giveUp (h.of_eq (by simp))
  · exact h
  · exact h
  · exact CountersFit.giveUp (h.of_eq (by simp))
  · exact h

theorem CountersFit.frameSent (h : CountersFit s.transmitter) (x : Option Slot) :
    CountersFit (s.frameSent x).transmitter := by
  unfold State.frameSent State.reportSent State.noticeSent
  repeat' split
  · exact h.of_eq (by simp)
  · exact h
  · exact h.of_eq (by simp)
  · exact h

theorem CountersFit.enterBackup {t : Transmitter} (h : CountersFit t) : CountersFit t.enterBackup := by
  unfold Transmitter.enterBackup
  dsimp only
  split
  exacts [h, h]

end

/-! ### The receiver turned on and off (R113) -/

theorem ReceiverFits.restartReceiver {s : State} (h : ReceiverFits s.receiver) :
    ReceiverFits s.restartReceiver.receiver := by
  rw [State.restartReceiver_receiver]
  split
  exacts [h.of_eq rfl rfl rfl rfl rfl, h.of_eq rfl rfl rfl rfl rfl]

theorem CountersFit.restartReceiver {s : State} (h : CountersFit s.transmitter) :
    CountersFit s.restartReceiver.transmitter := h.of_eq (by simp)

theorem ReceiverFits.restarted {r : Receiver} (h : ReceiverFits r) (on : Bool) : ReceiverFits (r.restarted on) where
  errors := ⟨Nat.two_pow_pos 16, Nat.two_pow_pos 16, Nat.two_pow_pos 16, Nat.two_pow_pos 16⟩
  counts := ⟨Nat.two_pow_pos 16, Nat.two_pow_pos 16, h.counts.2.2⟩

theorem receiverFits_reset : ReceiverFits .reset := ⟨by unfold RxErrorsFit; decide, by decide⟩

/-! ### Everything in range -/

/-- R37, R76, R97, R100 to R105, R110, R131, R151, R177: items, queue and saturating fields. -/
structure RangesOk (s : State) : Prop where
  items : ItemsOk s
  reception : ReceptionFits s
  records : RecordsFit s.records

theorem rangesOk_iff (s : State) : RangesOk s ↔ ItemsOk s ∧ QueueOk s ∧ FieldsFit s := by
  constructor
  · rintro ⟨hi, ⟨hk, hr, ht, hp⟩, hq⟩
    exact ⟨hi, ⟨hq.level, hq.slot⟩, hk.current, hk.closing, hq.queue, hq.overflow, hq.discarded, hr.errors, hr.counts, ht,
      hp⟩
  · rintro ⟨hi, ⟨hlevel, hslot⟩, hf⟩
    exact ⟨hi, ⟨⟨hf.current, hf.closing⟩, ⟨hf.errors, hf.received⟩, hf.sent, hf.peers⟩,
      ⟨hlevel, hslot, hf.queue, hf.overflow, hf.discarded⟩⟩

theorem itemsFit_reset : ItemsFit .reset .reset where
  address := by simp [Items.reset]
  expected := by decide
  weight := by decide
  pulse := by simp [Plant.forall_iff, Items.reset, PerPlant.both, PerPlant.get]
  dtCutoff := by decide
  grace := by decide
  skewLimit := by decide
  queueAlertLevel := by decide
  epochWeekday := by decide
  rate := by
    have hband : ∀ b, (PerBand.all 0).get b < 65536 :=
      PerBand.forall_get (P := (· < 65536)).mpr (by simp [PerBand.all])
    exact fun p => by cases p; exacts [hband, hband]
  holidays := ⟨List.Pairwise.nil, by decide, by simp [Calendar.reset]⟩

theorem rangesOk_fullReset (s : State) (r : Bool) : RangesOk { s.fullReset with rstnHigh := r } where
  items := .of_unconfigured itemsFit_reset rfl
  reception := ⟨contextsFit_reset, receiverFits_reset, ⟨Nat.two_pow_pos 16, Nat.two_pow_pos 16, Nat.two_pow_pos 16⟩, fun _ hp => by cases hp⟩
  records := recordsFit_reset

/-- R67 to R85: the close of a window folds, counts and records within the fields. -/
theorem closeWindow_fits {s : State} (hq : RecordsFit s.records) (hk : ContextsFit s.contexts) (hp : PeersFit s.peers)
    (w : WindowEntry) :
    RecordsFit (s.closeWindow w).records ∧ ContextsFit (s.closeWindow w).contexts ∧
    PeersFit (s.closeWindow w).peers := by
  unfold State.closeWindow
  dsimp only
  split
  · refine ⟨(RecordsFit.finishDay ?_ ?_).1, (RecordsFit.finishDay ?_ ?_).2, ?_⟩
    · simpa using hq
    · simpa using hk.afterClose w
    · simpa using hq
    · simpa using hk.afterClose w
    · simpa using hp.upkeep _
  · exact ⟨by simpa using hq, by simpa using hk.afterClose w, by simpa using hp.upkeep _⟩

theorem graceExpiry_fits {s : State} (hq : RecordsFit s.records) (hk : ContextsFit s.contexts) (hp : PeersFit s.peers) :
    RecordsFit s.graceExpiry.records ∧ ContextsFit s.graceExpiry.contexts ∧ PeersFit s.graceExpiry.peers := by
  unfold State.graceExpiry
  dsimp only
  split
  · exact ⟨hq, hk, hp⟩
  · exact closeWindow_fits (by simpa using hq) (by simpa using hk) (by simpa using hp) _

section
variable {s : State} (h : RangesOk s)
include h

/-- A step that leaves items, contexts, records and peers. -/
theorem RangesOk.of_eq {t : State} (hi : t.items = s.items) (hc : t.calendar = s.calendar)
    (hs : s.station.state = .unconfigured → t.station.state = .unconfigured) (hk : t.contexts = s.contexts)
    (hq : t.records = s.records) (hp : t.peers = s.peers) (hr : ReceiverFits t.receiver)
    (ht : CountersFit t.transmitter) : RangesOk t where
  items := h.items.of_eq hi hc hs
  reception := ⟨hk ▸ h.reception.contexts, hr, ht, fun p hmem => h.reception.peers p (hp ▸ hmem)⟩
  records := hq ▸ h.records

/-- A step that leaves the items and the records. -/
theorem RangesOk.of_reception {t : State} (hi : t.items = s.items) (hc : t.calendar = s.calendar)
    (hs : s.station.state = .unconfigured → t.station.state = .unconfigured) (hq : t.records = s.records)
    (hr : ReceptionFits t) : RangesOk t := ⟨h.items.of_eq hi hc hs, hr, hq ▸ h.records⟩

/-- A step that leaves everything but the records. -/
theorem RangesOk.of_records {t : State} (hi : t.items = s.items) (hc : t.calendar = s.calendar)
    (hs : t.station = s.station) (hk : t.contexts = s.contexts) (hp : t.peers = s.peers) (hr : t.receiver = s.receiver)
    (ht : t.transmitter = s.transmitter) (hq : RecordsFit t.records) : RangesOk t where
  items := h.items.of_eq hi hc fun hu => hs ▸ hu
  reception := ⟨hk ▸ h.reception.contexts, hr ▸ h.reception.receiver, ht ▸ h.reception.counters,
    fun p hmem => h.reception.peers p (hp ▸ hmem)⟩
  records := hq

/-- A write in UNCONFIGURED of items that fit. -/
theorem RangesOk.stored {t : State} (hw : ItemsFit t.items t.calendar) (hs : t.station.state = .unconfigured)
    (hk : t.contexts = s.contexts) (hq : t.records = s.records) (hp : t.peers = s.peers) (hr : ReceiverFits t.receiver)
    (ht : CountersFit t.transmitter) : RangesOk t where
  items := .of_unconfigured hw hs
  reception := ⟨hk ▸ h.reception.contexts, hr, ht, fun p hmem => h.reception.peers p (hp ▸ hmem)⟩
  records := hq ▸ h.records

/-- R111, R176: a write, and what a taken LINE_RATE does to the line. -/
theorem RangesOk.writeItem (hs : s.station.state = .unconfigured) (code : Octet) (value : BitVec 32) :
    RangesOk (writeItemEffect code value s).1 := by
  unfold writeItemEffect
  split
  · exact h
  · next w hw =>
    have hfit := (((itemsOk_iff s).mp h.items).1).judged hw
    have hstored : RangesOk (s.storeItems w) :=
      h.stored hfit hs rfl rfl rfl h.reception.receiver h.reception.counters
    show RangesOk ((s.storeItems w).rateChanged code w.status)
    unfold State.rateChanged
    split
    · exact hstored.stored (by simpa [State.storeItems] using hfit) (by simpa using hs) (by simp) (by simp) (by simp)
        (ReceiverFits.restartReceiver (h.reception.receiver.of_eq rfl rfl rfl rfl rfl))
        (CountersFit.restartReceiver (h.reception.counters.of_eq (by simp)))
    · exact hstored

/-- R26: the grace is clamped within its own range. -/
theorem RangesOk.clampGrace : ItemsFit s.items.clampGrace s.calendar ∧
    s.items.clampGrace.grace ≤ s.items.clampGrace.length.seconds / 2 := by
  have hfit := ((itemsOk_iff s).mp h.items).1
  have hhalf : 150 ≤ s.items.length.seconds / 2 := by cases s.items.length <;> decide
  obtain ⟨hlow, hhigh⟩ := hfit.grace
  exact ⟨{ hfit with grace := ⟨le_min hlow (by omega), (min_le_left _ _).trans hhigh⟩ }, min_le_right _ _⟩

theorem RangesOk.commission : RangesOk (s.commissionBlocks.commissionLine.requestNotice .joining) where
  items := by
    obtain ⟨hfit, hgrace⟩ := h.clampGrace
    rw [itemsOk_iff]
    simp only [State.requestNotice_frame, State.commissionLine_frame]
    exact ⟨hfit, fun _ => hgrace⟩
  reception :=
    { contexts := by simpa [State.commissionBlocks] using contextsFit_commission _
      receiver := by
        simp only [State.requestNotice_frame]
        exact ReceiverFits.restartReceiver (h.reception.receiver.of_eq rfl rfl rfl rfl rfl)
      counters := h.reception.counters.of_eq (by simp [State.commissionLine])
      peers := by simpa using h.reception.peers }
  records := by simpa using h.records

theorem RangesOk.enter_requestNotice {x : StationState} (hs : s.station.state ≠ .unconfigured) (a : NoticeState) :
    RangesOk ((s.enter x).requestNotice a) :=
  h.of_eq (by simp) (by simp) (fun hu => absurd hu hs) (by simp) (by simp) (by simp) (by simpa using h.reception.receiver)
    (h.reception.counters.of_eq (by simp))

omit h in
/-- R110: an attempt's end leaves the receiver's counters. -/
theorem ReceptionFits.endedAttempt {u t : State} (hu : ReceptionFits u)
    (hr : t.receiver = u.endAttempt.receiver) (hk : t.contexts = u.contexts) (hp : t.peers = u.peers)
    (ht : CountersFit t.transmitter) : ReceptionFits t where
  contexts := hk ▸ hu.contexts
  receiver := hr ▸ hu.receiver.of_eq rfl rfl rfl rfl rfl
  counters := ht
  peers := fun p hmem => hu.peers p (hp ▸ hmem)

theorem RangesOk.collide : RangesOk s.collide := by
  refine h.of_reception (by simp) (by simp) (by simp) (by simp) ?_
  have hread := h.reception.readColliding
  refine hread.endedAttempt (by unfold State.collide; simp) (by unfold State.collide; simp)
    (by unfold State.collide; simp) (CountersFit.of_eq (CountersFit.frameCollision ?_ _) (State.chooseCurrent_counters _))
  obtain ⟨hframes, -, hgiveUps⟩ := hread.counters
  exact ⟨hframes, bump_lt _, hgiveUps⟩

theorem RangesOk.succeed : RangesOk s.succeed := by
  refine h.of_reception (by simp) (by simp) (by simp) (by simp) ?_
  have hread := h.reception.readBackRest
  have hseen : ReceptionFits (s.readBackRest.seeLrx false) :=
    { hread with receiver := hread.receiver.of_eq rfl rfl rfl rfl rfl }
  refine hseen.endedAttempt (by unfold State.succeed; simp) (by unfold State.succeed; simp)
    (by unfold State.succeed; simp) (CountersFit.of_eq (CountersFit.frameSent ?_ _) (State.chooseCurrent_counters _))
  obtain ⟨-, hcollisions, hgiveUps⟩ := hread.counters
  exact ⟨bump_lt _, hcollisions, hgiveUps⟩

theorem RangesOk.graceExpiry : RangesOk s.graceExpiry := by
  obtain ⟨hq, hk, hp⟩ := graceExpiry_fits h.records h.reception.contexts h.reception.peers
  exact ⟨h.items.of_eq (by simp) (by simp) (by simp),
    ⟨hk, by simpa using h.reception.receiver, h.reception.counters.of_eq (by simp), hp⟩, hq⟩

theorem RangesOk.enterBackup (b : Bool) : RangesOk { s with pfailnHigh := b }.enterBackup :=
  h.of_eq (by simp) (by simp) (fun hu => by simp [enterBackup_station, hu]) (by simp) (by simp) (by simp)
    (h.reception.receiver.of_eq rfl rfl rfl rfl rfl) (CountersFit.enterBackup h.reception.counters)

theorem RangesOk.returnToMains : RangesOk s.returnToMains :=
  h.of_eq (by simp) (by simp) (by simp [State.returnToMains]) (by simp) (by simp) (by simp)
    (ReceiverFits.restartReceiver (by simpa using h.reception.receiver))
    (CountersFit.restartReceiver (by simpa using h.reception.counters))

theorem RangesOk.restartLine : RangesOk (restartLineEffect s).1 :=
  h.of_eq (by simp [restartLineEffect]) (by simp [restartLineEffect]) (by simp [restartLineEffect])
    (by simp [restartLineEffect]) (by simp [restartLineEffect]) (by simp [restartLineEffect])
    (h.reception.receiver.restarted _) ⟨Nat.two_pow_pos 16, Nat.two_pow_pos 16, Nat.two_pow_pos 16⟩

theorem RangesOk.lineTestMode (mode : Octet) : RangesOk (lineTestModeEffect mode s).1 := by
  unfold lineTestModeEffect
  repeat' split
  · exact h
  · exact h
  · exact h.of_eq (by simp) (by simp) (by simp) (by simp) (by simp) (by simp)
      (ReceiverFits.restartReceiver (h.reception.receiver.of_eq rfl rfl rfl rfl rfl))
      (CountersFit.restartReceiver (h.reception.counters.of_eq (by simp)))

theorem RangesOk.sendTest : RangesOk (sendTestEffect s).1 := by
  unfold sendTestEffect
  split
  · exact h
  · exact h.of_eq (by simp) (by simp) (by simp) (by simp) (by simp) (by simp) (by simpa using h.reception.receiver)
      (h.reception.counters.of_eq (by simp))

/-- A step that changes no item, no field of this kind and no station state. -/
theorem RangesOk.of_other {t : State} (hi : t.items = s.items) (hc : t.calendar = s.calendar)
    (hs : s.station.state = .unconfigured → t.station.state = .unconfigured) (hk : t.contexts = s.contexts)
    (hq : t.records = s.records) (hp : t.peers = s.peers) (hr : t.receiver = s.receiver)
    (ht : t.transmitter = s.transmitter) : RangesOk t :=
  h.of_eq hi hc hs hk hq hp (hr ▸ h.reception.receiver) (ht ▸ h.reception.counters)

theorem RangesOk.preserves : Preserves RangesOk s where
  port := fun _ _ hu => hu.of_other rfl rfl id rfl rfl rfl rfl rfl
  writeItem := h.writeItem
  holidayAdd := fun hs value =>
    h.stored ((((itemsOk_iff s).mp h.items).1).addHoliday value) hs rfl rfl rfl h.reception.receiver h.reception.counters
  holidayClear := fun hs _ =>
    h.stored (((itemsOk_iff s).mp h.items).1).clearHolidays hs rfl rfl rfl h.reception.receiver h.reception.counters
  setClock := fun _ _ _ => by
    unfold setClockEffect
    split
    exacts [h, h.of_other rfl rfl id rfl rfl rfl rfl rfl]
  trimClock := fun _ _ => by
    unfold trimClockEffect
    split
    exacts [h, h.of_other rfl rfl id rfl rfl rfl rfl rfl]
  commission := fun _ _ => h.commission
  quiet := fun hs _ _ => h.enter_requestNotice hs _
  speak := fun hs => h.enter_requestNotice (by rcases hs with hs | hs <;> simp [hs]) _
  snapshot := fun _ => by
    refine h.of_records ?_ ?_ ?_ ?_ ?_ ?_ ?_ (h.records.snapshot h.reception.contexts h.reception.receiver.errors)
    all_goals
      unfold snapshotEffect
      repeat' split
      all_goals simp
  releaseRecord := by
    refine h.of_records ?_ ?_ ?_ ?_ ?_ ?_ ?_ h.records.release
    all_goals
      unfold releaseEffect
      repeat' split
      all_goals simp
  clearQueue := h.of_records rfl rfl rfl rfl rfl rfl rfl
    ⟨Nat.zero_le 8, by simp [clearQueueEffect], by simp [clearQueueEffect], by simp [clearQueueEffect], satAdd_lt 16 _ _⟩
  readCause := h.of_other rfl rfl id rfl rfl rfl rfl rfl
  setEnables := fun _ _ _ => by
    unfold setEnablesEffect
    split
    exacts [h, h.of_other rfl rfl id rfl rfl rfl rfl rfl]
  clearFailure := h.of_eq rfl rfl id rfl rfl rfl h.reception.receiver h.reception.counters
  restartLine := fun _ => h.restartLine
  resetConverter := fun _ => h.of_other rfl rfl id rfl rfl rfl rfl rfl
  lineTestMode := fun _ => h.lineTestMode
  sendTest := fun _ => h.sendTest
  reset := fun _ => rangesOk_fullReset s s.rstnHigh
  rstnFalling := fun _ => rangesOk_fullReset s false
  rstnRising := fun _ => rangesOk_fullReset s true
  flowPulse := fun _ _ => h.of_other rfl rfl id rfl rfl rfl rfl rfl
  pfailnFollow := fun _ _ => h.of_other rfl rfl id rfl rfl rfl rfl rfl
  pfailnFallingBackup := fun _ _ _ => h.of_other rfl rfl id rfl rfl rfl rfl rfl
  pfailnFalling := fun _ _ _ => h.enterBackup false
  pfailnRisingBackup := fun _ _ _ => by
    unfold State.leaveBackup
    dsimp only
    split
    · exact RangesOk.returnToMains (h.of_other rfl rfl id rfl rfl rfl rfl rfl)
    · exact h.of_other rfl rfl id rfl rfl rfl rfl rfl
  pfailnRising := fun _ _ _ => h.of_other rfl rfl id rfl rfl rfl rfl rfl
  recoveryEnd := fun _ _ => h.returnToMains
  countedSecondEnd := fun _ _ _ => h.of_other rfl rfl id rfl rfl rfl rfl rfl
  slewStep := fun _ => h.of_other rfl rfl id rfl rfl rfl rfl rfl
  cycleEvent := fun _ _ _ _ _ _ =>
    h.of_other (by simp) (by simp) (by simp [State.cycle]) (by simp) (by simp) (by simp) (by simp) (by simp)
  converterRestartEnd := fun _ _ => h.of_other rfl rfl id rfl rfl rfl rfl rfl
  windowBoundary := fun _ _ _ =>
    h.of_eq (by simp) (by simp) (by simp) (by simp) (by simp) (by simp) (by simpa using h.reception.receiver)
      (h.reception.counters.of_eq (by simp))
  dayBoundary := fun _ _ =>
    h.of_reception rfl rfl id rfl
      { h.reception with contexts := h.reception.contexts.rollOver h.reception.receiver.errors _ }
  graceExpiry := fun _ _ => h.graceExpiry
  idleGap := fun _ _ => h.of_reception (by simp) (by simp) (by simp) (by simp) h.reception.idleGap
  character := fun _ _ _ _ =>
    h.of_reception (by simp) (by simp) (by simp) (by simp) (h.reception.character _ _)
  frameReceived := fun _ => h.of_reception (by simp) (by simp) (by simp) (by simp) h.reception.judgeWaiting
  backoffExpiry := fun _ _ =>
    h.of_eq rfl rfl id rfl rfl rfl
      (by
        unfold State.startSending
        dsimp only
        split
        exacts [h.reception.receiver.of_eq rfl rfl rfl rfl rfl, h.reception.receiver])
      (h.reception.counters.of_eq (by simp))
  txCollision := fun _ _ => h.collide
  txSuccess := fun _ _ => h.succeed
  lineStuck := fun _ _ =>
    h.of_eq (by simp) (by simp) (by simp) (by simp) (by simp) (by simp) (by simpa using h.reception.receiver)
      (h.reception.counters.of_eq (by simp))
  irqnPulseEnd := fun _ => h.of_other rfl rfl id rfl rfl rfl rfl rfl
  startBit := fun _ _ => h.of_reception rfl rfl id rfl h.reception.startBit

end

/-! ### The Cause Unit's pulse (R191) -/

theorem causesOk_fullReset (s : State) (r : Bool) : CausesOk { s.fullReset with rstnHigh := r } := fun h => by
  cases (h : false = true)

/-- R188: a read clears a flag and touches no control. -/
theorem CauseUnit.readHighest_controls (u : CauseUnit) :
    u.readHighest.mode = u.mode ∧ u.readHighest.master = u.master ∧ u.readHighest.pulse = u.pulse := by
  unfold CauseUnit.readHighest
  split
  exacts [⟨rfl, rfl, rfl⟩, ⟨rfl, rfl, rfl⟩]

theorem CausesOk.exec {c : Instr} {s t : State} (h : CausesOk s) (hexec : exec c s = .next t) : CausesOk t := by
  cases c
  case reset =>
    cases hexec
    split
    exacts [causesOk_fullReset s s.rstnHigh, h]
  case rstnFalling =>
    cases hexec
    split
    exacts [causesOk_fullReset s false, h]
  case rstnRising =>
    cases hexec
    split
    exacts [h, causesOk_fullReset s true]
  case readCause =>
    refine takeCommand_keeps hexec h (fun _ _ hu => hu) ?_
    obtain ⟨hmode, hmaster, hpulse⟩ := s.causes.readHighest_controls
    show s.causes.readHighest.pulse = true → s.causes.readHighest.mode = .pulse ∧ s.causes.readHighest.master = true
    rwa [hmode, hmaster, hpulse]
  case cycleEvent hs hr cs cr =>
    refine takeEvent_keeps hexec h fun _ => ?_
    split
    · exact (State.cycle_raised (S := Set.univ) .refl (Set.subset_univ _)).pulse h
    · exact h
  all_goals
    exact (exec_kept hexec ⟨by simp, by simp, by simp⟩ (by simp) (by simp)).causes h

/-! ### The settled statement -/

/-- Settles O57: items, queue and saturating fields by what each command stores (`RangesOk.preserves`), the pulse by what raises
a cause (`Kept.causes`). -/
theorem stepKeepsRanges : Obligations.StepKeepsRanges := by
  unfold Obligations.StepKeepsRanges
  intro s t hitems hcauses hqueue hfields hstep
  have hranges : RangesOk s := (rangesOk_iff s).mpr ⟨hitems, hqueue, hfields⟩
  have htick : RangesOk s.tick := by
    refine hranges.of_eq (by simp) (by simp) (by simp) (by simp) (by simp) (by simp) ?_ ?_
    · unfold State.tick
      split
      exacts [hranges.reception.receiver.of_eq rfl rfl rfl rfl rfl, hranges.reception.receiver]
    · unfold State.tick
      split
      exacts [hranges.reception.counters, hranges.reception.counters]
  have hkept : RangesOk t :=
    step_keeps hstep hranges (fun _ _ hu => hu.of_other rfl rfl id rfl rfl rfl rfl rfl) htick fun q =>
      RangesOk.preserves (hranges.of_other rfl rfl id rfl rfl rfl rfl rfl)
  obtain ⟨hitems', hqueue', hfields'⟩ := (rangesOk_iff t).mp hkept
  refine ⟨hitems', ?_, hqueue', hfields'⟩
  unfold step at hstep
  split at hstep
  · next c rest _ => exact CausesOk.exec (s := { s with pending := rest }) hcauses hstep
  · cases hstep
    simpa [CausesOk] using hcauses

end Sys2Proof.Machine

/-! SUPPORT. The three window places, the Peer Table and the contributor sets through every command, and the settling of
O56. -/

namespace Sys2Proof.Machine

/-! ### Ascending tables (R42, R152) -/

theorem ascending_putPeer {l : List PeerEntry} (h : Ascending (l.map PeerEntry.address)) (e : PeerEntry) :
    Ascending ((putPeer e l).map PeerEntry.address) := by
  unfold Ascending at h ⊢
  induction l with
  | nil => simp [putPeer]
  | cons p l ih =>
    simp only [List.map_cons, List.pairwise_cons, List.mem_map, forall_exists_index, and_imp,
      forall_apply_eq_imp_iff₂] at h
    obtain ⟨hp, hl⟩ := h
    unfold putPeer
    split
    · next hlt =>
      simp only [List.map_cons, List.pairwise_cons, List.mem_cons, List.mem_map]
      refine ⟨?_, by simpa using hp, hl⟩
      rintro _ (rfl | ⟨q, hq, rfl⟩)
      exacts [hlt, hlt.trans (hp q hq)]
    split
    · next heq => simpa [heq] using ⟨hp, hl⟩
    · next hnlt hne =>
      simp only [List.map_cons, List.pairwise_cons, List.mem_map, forall_exists_index, and_imp,
        forall_apply_eq_imp_iff₂]
      refine ⟨fun q hq => ?_, ih hl⟩
      rcases mem_putPeer hq with rfl | hq
      exacts [by omega, hp q hq]

/-- R152: the Peer Table under the items of its station. -/
structure PeerTableOk (i : Items) (l : List PeerEntry) : Prop where
  ascending : Ascending (l.map PeerEntry.address)
  addresses : ∀ p ∈ l, PeerAddress i p.address
  missed : ∀ p ∈ l, p.missed ≤ 15

theorem peerTableOk_nil (i : Items) : PeerTableOk i [] := ⟨List.Pairwise.nil, by simp, by simp⟩

theorem PeerTableOk.put {i : Items} {l : List PeerEntry} (h : PeerTableOk i l) {e : PeerEntry}
    (ha : PeerAddress i e.address) (hm : e.missed ≤ 15) : PeerTableOk i (putPeer e l) where
  ascending := ascending_putPeer h.ascending e
  addresses := fun p hp => by
    rcases mem_putPeer hp with rfl | hp
    exacts [ha, h.addresses p hp]
  missed := fun p hp => by
    rcases mem_putPeer hp with rfl | hp
    exacts [hm, h.missed p hp]

@[simp] theorem PeerEntry.miss_address (p : PeerEntry) : p.miss.address = p.address := by
  unfold PeerEntry.miss
  split
  all_goals rfl

theorem PeerEntry.miss_missed {p : PeerEntry} (h : p.missed ≤ 15) : p.miss.missed ≤ 15 := by
  have hcapped : min 15 (p.missed + 1) ≤ 15 := min_le_left _ _
  unfold PeerEntry.miss
  split
  exacts [hcapped, hcapped, h, h]

theorem upkeep_addresses (contributors : List Nat) (l : List PeerEntry) :
    (upkeep contributors l).map PeerEntry.address = l.map PeerEntry.address := by
  unfold upkeep
  rw [List.map_map]
  refine List.map_congr_left fun p _ => ?_
  simp only [Function.comp_apply]
  split
  exacts [rfl, p.miss_address]

theorem PeerTableOk.upkeep {i : Items} {l : List PeerEntry} (h : PeerTableOk i l) (contributors : List Nat) :
    PeerTableOk i (upkeep contributors l) where
  ascending := by rw [upkeep_addresses]; exact h.ascending
  addresses := fun p hp => by
    have hmem : p.address ∈ l.map PeerEntry.address :=
      upkeep_addresses contributors l ▸ List.mem_map_of_mem (f := PeerEntry.address) hp
    obtain ⟨q, hq, he⟩ := List.mem_map.mp hmem
    exact he ▸ h.addresses q hq
  missed := fun p hp => by
    obtain ⟨q, hq, rfl⟩ := List.mem_map.mp hp
    split
    exacts [h.missed q hq, PeerEntry.miss_missed (h.missed q hq)]

theorem PeerTableOk.peerOf_missed {s : State} {i : Items} (h : PeerTableOk i s.peers) (a : Nat) (roleCode : Octet)
    (weight : Nat) : (s.peerOf a roleCode weight).missed ≤ 15 := by
  unfold State.peerOf
  cases hp : findPeer s.peers a with
  | none => exact Nat.zero_le 15
  | some p => exact h.missed p (mem_of_findPeer hp)

theorem contributorsOk_nil (i : Items) : ContributorsOk i [] := ⟨List.Pairwise.nil, by simp⟩

theorem ContributorsOk.insert {i : Items} {l : List Nat} (h : ContributorsOk i l) {a : Nat} (ha : PeerAddress i a) :
    ContributorsOk i (insertAscending a l) := by
  refine ⟨ascending_insertAscending h.1 a, fun b hb => ?_⟩
  rcases mem_insertAscending.mp hb with rfl | hb
  exacts [ha, h.2 b hb]

/-! ### The places and the table together -/

/-- R40 to R45, R152: the places, the Peer Table and the contributor sets. -/
structure TablesOk (s : State) : Prop where
  windows : WindowsOk s
  peers : PeersOk s

theorem TablesOk.table {s : State} (h : TablesOk s) : PeerTableOk s.items s.peers :=
  ⟨h.peers.ascending, h.peers.addresses, h.peers.missed⟩

theorem tablesOk_of_unconfigured {t : State} (hs : t.station.state = .unconfigured) (hw : t.windows = .reset)
    (ha : t.timebase.graceArmed = false) (hp : t.peers = []) : TablesOk t where
  windows := by
    constructor
    all_goals simp [hw, ha, hs, WindowTable.reset]
  peers := by
    constructor
    all_goals simp [hw, hp, WindowTable.reset, Ascending]

/-- What may become of the entry in a place: its index stays, its status stays decided or undecided, and its contributors
stay addresses of peers. -/
structure EntryKept (i : Items) (f : WindowEntry → WindowEntry) : Prop where
  index : ∀ e, (f e).index = e.index
  undecided : ∀ e, (f e).reportStatus = .undecided ↔ e.reportStatus = .undecided
  contributors : ∀ e, ContributorsOk i e.contributors → ContributorsOk i (f e).contributors

theorem entryKept_id (i : Items) : EntryKept i id := ⟨fun _ => rfl, fun _ => .rfl, fun _ h => h⟩

/-- The entries changed place by place. -/
def WindowTable.mapEntries (w : WindowTable) (grace opened ahead : WindowEntry → WindowEntry)
    (closed : ClosedReport → ClosedReport) : WindowTable :=
  { graceEntry := w.graceEntry.map grace, openEntry := w.openEntry.map opened, aheadEntry := w.aheadEntry.map ahead,
    closedReport := w.closedReport.map closed }

theorem WindowTable.mapEntries_id (w : WindowTable) : w.mapEntries id id id id = w := by
  cases w
  simp [WindowTable.mapEntries]

/-- A step that leaves the items, the station's being commissioned and grace, and every entry in its place. -/
structure SamePlaces (s t : State) : Prop where
  items : t.items = s.items
  state : t.station.state = .unconfigured ↔ s.station.state = .unconfigured
  armed : t.timebase.graceArmed = s.timebase.graceArmed

theorem TablesOk.of_map {s t : State} (h : TablesOk s) (k : SamePlaces s t)
    {grace opened ahead : WindowEntry → WindowEntry} {closed : ClosedReport → ClosedReport}
    (hw : t.windows = s.windows.mapEntries grace opened ahead closed) (hgrace : EntryKept s.items grace)
    (hopened : EntryKept s.items opened) (hahead : EntryKept s.items ahead)
    (hown : ∀ e, (ahead e).own = e.own ∧ (ahead e).reverseCount = e.reverseCount)
    (hclosed : ∀ c, c.status ≠ .undecided → (closed c).status ≠ .undecided)
    (hp : PeerTableOk s.items t.peers) (he : s.station.state = .unconfigured → t.peers = []) : TablesOk t where
  windows := by
    have hwin := h.windows
    constructor
    case opened => simpa [hw, WindowTable.mapEntries, k.state] using hwin.opened
    case ahead => simpa [hw, WindowTable.mapEntries] using hwin.ahead
    case empty =>
      intro hs
      rw [hw, hwin.empty (k.state.mp hs)]
      rfl
    case aheadIndex =>
      intro o a ho ha
      simp only [hw, WindowTable.mapEntries, Option.map_eq_some_iff] at ho ha
      obtain ⟨o, ho, rfl⟩ := ho
      obtain ⟨a, ha, rfl⟩ := ha
      rw [hahead.index, hopened.index, k.items]
      exact hwin.aheadIndex o a ho ha
    case graceIndex =>
      intro g o hg ho
      simp only [hw, WindowTable.mapEntries, Option.map_eq_some_iff] at hg ho
      obtain ⟨g, hg, rfl⟩ := hg
      obtain ⟨o, ho, rfl⟩ := ho
      rw [hgrace.index, hopened.index, k.items]
      exact hwin.graceIndex g o hg ho
    case armed => simpa [hw, WindowTable.mapEntries, k.armed] using hwin.armed
    case openStatus =>
      intro e ho
      simp only [hw, WindowTable.mapEntries, Option.map_eq_some_iff] at ho
      obtain ⟨e, ho, rfl⟩ := ho
      exact (hopened.undecided e).mpr (hwin.openStatus e ho)
    case aheadStatus =>
      intro e ha
      simp only [hw, WindowTable.mapEntries, Option.map_eq_some_iff] at ha
      obtain ⟨e, ha, rfl⟩ := ha
      exact (hahead.undecided e).mpr (hwin.aheadStatus e ha)
    case graceStatus =>
      intro e hg
      simp only [hw, WindowTable.mapEntries, Option.map_eq_some_iff] at hg
      obtain ⟨e, hg, rfl⟩ := hg
      exact mt (hgrace.undecided e).mp (hwin.graceStatus e hg)
    case closedStatus =>
      intro c hc
      simp only [hw, WindowTable.mapEntries, Option.map_eq_some_iff] at hc
      obtain ⟨c, hc, rfl⟩ := hc
      exact hclosed c (hwin.closedStatus c hc)
    case aheadOwn =>
      intro e ha
      simp only [hw, WindowTable.mapEntries, Option.map_eq_some_iff] at ha
      obtain ⟨e, ha, rfl⟩ := ha
      rw [(hown e).1, (hown e).2]
      exact hwin.aheadOwn e ha
  peers := by
    have hpeers := h.peers
    constructor
    case ascending => exact hp.ascending
    case addresses => rw [k.items]; exact hp.addresses
    case empty => exact fun hs => he (k.state.mp hs)
    case missed => exact hp.missed
    case grace =>
      intro e hg
      simp only [hw, WindowTable.mapEntries, Option.map_eq_some_iff] at hg
      obtain ⟨e, hg, rfl⟩ := hg
      exact k.items ▸ hgrace.contributors e (hpeers.grace e hg)
    case opened =>
      intro e ho
      simp only [hw, WindowTable.mapEntries, Option.map_eq_some_iff] at ho
      obtain ⟨e, ho, rfl⟩ := ho
      exact k.items ▸ hopened.contributors e (hpeers.opened e ho)
    case ahead =>
      intro e ha
      simp only [hw, WindowTable.mapEntries, Option.map_eq_some_iff] at ha
      obtain ⟨e, ha, rfl⟩ := ha
      exact k.items ▸ hahead.contributors e (hpeers.ahead e ha)

/-- A step that leaves the Window Table. -/
theorem TablesOk.of_table {s t : State} (h : TablesOk s) (k : SamePlaces s t) (hw : t.windows = s.windows)
    (hp : PeerTableOk s.items t.peers) (he : s.station.state = .unconfigured → t.peers = []) : TablesOk t :=
  h.of_map (grace := id) (opened := id) (ahead := id) (closed := id) k (by rw [hw, WindowTable.mapEntries_id])
    (entryKept_id _) (entryKept_id _) (entryKept_id _) (fun _ => ⟨rfl, rfl⟩) (fun _ hc => hc) hp he

/-- A step that leaves both tables. -/
theorem TablesOk.of_same {s t : State} (h : TablesOk s) (k : SamePlaces s t) (hw : t.windows = s.windows)
    (hp : t.peers = s.peers) : TablesOk t := h.of_table k hw (hp ▸ h.table) fun hs => hp ▸ h.peers.empty hs

/-! ### The fate of a report (R43, R58, R59, R63) -/

theorem ReportStatus.settle_undecided {outcome : ReportStatus} (ho : outcome ≠ .undecided) (x : ReportStatus) :
    x.settle outcome = .undecided ↔ x = .undecided := by
  unfold ReportStatus.settle
  split
  · next hx => simp [hx, ho]
  · exact .rfl

section
variable {s : State} (h : TablesOk s)
include h

theorem TablesOk.settleGraceReport {outcome : ReportStatus} (ho : outcome ≠ .undecided) :
    TablesOk (s.settleGraceReport outcome) :=
  h.of_map (grace := fun e => { e with reportStatus := e.reportStatus.settle outcome }) (opened := id) (ahead := id)
    (closed := id) ⟨rfl, .rfl, rfl⟩ (by simp [State.settleGraceReport, WindowTable.mapEntries])
    ⟨fun _ => rfl, fun _ => ReportStatus.settle_undecided ho _, fun _ hc => hc⟩ (entryKept_id _) (entryKept_id _)
    (fun _ => ⟨rfl, rfl⟩) (fun _ hc => hc) h.table h.peers.empty

theorem TablesOk.settleClosedReport {outcome : ReportStatus} (ho : outcome ≠ .undecided) :
    TablesOk (s.settleClosedReport outcome) :=
  h.of_map (grace := id) (opened := id) (ahead := id)
    (closed := fun c => { c with status := c.status.settle outcome }) ⟨rfl, .rfl, rfl⟩
    (by simp [State.settleClosedReport, WindowTable.mapEntries]) (entryKept_id _) (entryKept_id _) (entryKept_id _)
    (fun _ => ⟨rfl, rfl⟩) (fun _ => mt (ReportStatus.settle_undecided ho _).mp) h.table h.peers.empty

theorem TablesOk.settleReport {outcome : ReportStatus} (ho : outcome ≠ .undecided) (expired : Bool) :
    TablesOk (s.settleReport expired outcome) := by
  unfold State.settleReport
  split
  exacts [h.settleClosedReport ho, h.settleGraceReport ho]

/-! ### Reception (R54, R127, R153) -/

theorem TablesOk.handNotice {n : PresenceNotice} (ha : PeerAddress s.items n.sender)
    (hs : s.station.state ≠ .unconfigured) : TablesOk (s.handNotice n) := by
  refine h.of_table ⟨by simp, by simp, by simp⟩ (by simp) ?_ fun hu => absurd hu hs
  rw [State.handNotice_eq, State.afterPeerFrame_peers]
  refine h.table.put ?_ ?_
  · simpa [PeerEntry.afterNotice_eq] using ha
  · rw [(PeerEntry.afterNotice_counts _ _ _).1]
    exact h.table.peerOf_missed _ _ _

omit h in
theorem entryKept_accept {i : Items} {r : WindowReport} (ha : PeerAddress i r.sender) (b : Bool) :
    EntryKept i (if b then fun e => e.accept r else id) := by
  split
  exacts [⟨fun _ => rfl, fun _ => .rfl, fun _ hc => hc.insert ha⟩, entryKept_id i]

omit h in
/-- R54: an accepted report changes the entry of its place. -/
theorem WindowTable.accept_eq (w : WindowTable) (place : Place) (r : WindowReport) :
    w.accept place r =
      w.mapEntries (if place == .grace then fun e => e.accept r else id)
        (if place == .opened then fun e => e.accept r else id) (if place == .ahead then fun e => e.accept r else id)
        id := by
  cases place
  all_goals simp [WindowTable.accept, WindowTable.mapEntries]

/-- R53 to R55, R157: a Window Report handed on by reception, at any disposition. -/
theorem TablesOk.handReport {r : WindowReport} (ha : PeerAddress s.items r.sender)
    (hs : s.station.state ≠ .unconfigured) : TablesOk (s.handReport r) := by
  have haddress : PeerAddress s.items (s.peerOf r.sender r.roleCode r.weight).address := by simpa using ha
  have hmissed := h.table.peerOf_missed r.sender r.roleCode r.weight
  by_cases hd : r.digest = s.station.digest
  · have hentry (d : Disposition) : PeerTableOk s.items
        (putPeer ((s.compatiblePeer r).afterDisposition r (s.reportedIndex r) s.receiver.arrivalSecond d) s.peers) := by
      refine h.table.put (by rw [PeerEntry.afterDisposition_address]; exact haddress) ?_
      cases d
      case accepted => exact Nat.zero_le 15
      all_goals exact hmissed
    rw [State.handReport_of_digest hd]
    cases hdisposition : s.disposition r
    case accepted place =>
      refine h.of_map ⟨rfl, .rfl, rfl⟩ (s.windows.accept_eq place r) (entryKept_accept ha _) (entryKept_accept ha _)
        (entryKept_accept ha _) (fun e => ?_) (fun _ hc => hc) (hentry _) fun hu => absurd hu hs
      split
      exacts [⟨rfl, rfl⟩, ⟨rfl, rfl⟩]
    all_goals exact h.of_table ⟨rfl, .rfl, rfl⟩ rfl (hentry _) fun hu => absurd hu hs
  · refine h.of_table ⟨by simp, by simp, by simp⟩ ?_ ?_ fun hu => absurd hu hs
    · rw [State.handReport_of_differs hd, State.afterPeerFrame_eq]
    · rw [State.handReport_of_differs hd, State.afterPeerFrame_peers]
      exact h.table.put haddress hmissed

/-- R125, R126: a frame reaches the tables from a sender that is no address clash. -/
theorem TablesOk.dispatch (kind : Octet) (payload : List Octet) : TablesOk (s.dispatch kind payload) := by
  have hclash : TablesOk s.addressClash := h.of_same ⟨rfl, .rfl, rfl⟩ rfl rfl
  have hmalformed : TablesOk s.malformedFrame := h.of_same ⟨rfl, .rfl, rfl⟩ rfl rfl
  have hignored : TablesOk s.ignoreFrame := h.of_same ⟨rfl, .rfl, rfl⟩ rfl rfl
  unfold State.dispatch
  split
  · unfold State.dispatchLineTest
    repeat' split
    exacts [hmalformed, hignored, h.of_same ⟨rfl, .rfl, rfl⟩ rfl rfl]
  split
  · exact hignored
  · next hs =>
    unfold State.dispatchFromPeer
    dsimp only
    split
    · exact hmalformed
    · next hrange =>
      have haddress (hown : ¬s.items.stationAddress = some (fieldAt payload 0 1)) :
          PeerAddress s.items (fieldAt payload 0 1) := ⟨by omega, by omega, hown⟩
      split
      · split
        · exact hmalformed
        · next n hn =>
          split
          · exact hclash
          · next hown => exact h.handNotice (noticeOfPayload_sender hn ▸ haddress hown) hs
      split
      · exact hclash
      · next hown => exact h.handReport (r := reportOfPayload payload) (haddress hown) hs

theorem TablesOk.judgeWaiting : TablesOk s.judgeWaiting := by
  unfold State.judgeWaiting State.judge
  repeat' split
  · refine TablesOk.dispatch ?_ _ _
    exact h.of_same ⟨rfl, .rfl, rfl⟩ rfl rfl
  · exact h.of_same ⟨rfl, .rfl, rfl⟩ rfl rfl
  · exact h

theorem TablesOk.character (octet : Octet) (stopBit : Bool) : TablesOk (s.character octet stopBit) :=
  h.judgeWaiting.of_same ⟨by simp, by simp, by simp⟩ (by simp [State.character]) (by simp [State.character])

theorem TablesOk.idleGap : TablesOk s.idleGap := by
  refine h.judgeWaiting.of_same ⟨by simp, by simp, by simp⟩ ?_ ?_
  all_goals
    unfold State.idleGap
    dsimp only
    split
    all_goals simp

theorem TablesOk.readColliding : TablesOk s.readColliding := by
  rcases s.readColliding_cases with he | ⟨_, _, o, b, _, _, _, he⟩
  · rwa [he]
  · rw [he]
    exact (h.character o b).of_same ⟨rfl, .rfl, rfl⟩ rfl rfl

omit h in
theorem TablesOk.readBackRest (h : TablesOk s) : TablesOk s.readBackRest := by
  unfold State.readBackRest
  split
  · exact h
  · next htest =>
    clear htest
    generalize s.transmitter.octetsLeft = l
    induction l generalizing s with
    | nil => exact h
    | cons o l ih => exact ih (h.character o true)

/-! ### The end of an attempt (R141, R142) -/

theorem TablesOk.chooseCurrent : TablesOk s.chooseCurrent :=
  h.of_same ⟨by simp, by simp, by simp⟩ (by simp) (by simp)

theorem TablesOk.requestNotice (a : NoticeState) : TablesOk (s.requestNotice a) :=
  h.of_same ⟨by simp, by simp, by simp⟩ (by simp) (by simp)

theorem TablesOk.giveUp : TablesOk s.giveUp := h.of_same ⟨rfl, .rfl, rfl⟩ rfl rfl

theorem TablesOk.with_transmitter (t : Transmitter) : TablesOk { s with transmitter := t } :=
  h.of_same ⟨rfl, .rfl, rfl⟩ rfl rfl

theorem TablesOk.noticeEnded (a : NoticeState) : TablesOk (s.noticeEnded a) :=
  h.of_same ⟨by simp, by simp, by simp⟩ (by simp) (by simp)

theorem TablesOk.reportCollision (r : ReportSlot) : TablesOk (s.reportCollision r) := by
  unfold State.reportCollision State.expiredCollision State.reportGivenUp
  repeat' split
  · exact (TablesOk.settleClosedReport (h.with_transmitter _) (by decide)).of_same ⟨rfl, .rfl, rfl⟩ rfl rfl
  · exact h.with_transmitter _
  · exact (TablesOk.settleGraceReport (h.with_transmitter _) (by decide)).giveUp
  · exact (h.with_transmitter _).giveUp

theorem TablesOk.noticeCollision (n : NoticeSlot) : TablesOk (s.noticeCollision n) := by
  unfold State.noticeCollision
  repeat' split
  · exact h.with_transmitter _
  · exact h.with_transmitter _
  · exact (TablesOk.noticeEnded (h.with_transmitter _) _).giveUp

theorem TablesOk.frameCollision (x : Option Slot) : TablesOk (s.frameCollision x) := by
  unfold State.frameCollision
  split
  exacts [h.reportCollision _, h.noticeCollision _, h]

theorem TablesOk.frameSent (x : Option Slot) : TablesOk (s.frameSent x) := by
  unfold State.frameSent State.reportSent State.noticeSent
  repeat' split
  · exact TablesOk.settleReport (h.with_transmitter _) (by decide) _
  · exact h.with_transmitter _
  · exact TablesOk.noticeEnded (h.with_transmitter _) _
  · exact h

theorem TablesOk.endAttempt : TablesOk s.endAttempt := h.of_same ⟨rfl, .rfl, rfl⟩ rfl rfl

theorem TablesOk.collide : TablesOk s.collide :=
  TablesOk.chooseCurrent (TablesOk.frameCollision (h.readColliding.endAttempt.with_transmitter _) _)

theorem TablesOk.succeed : TablesOk s.succeed := by
  have hseen : TablesOk (s.readBackRest.seeLrx false) := h.readBackRest.of_same ⟨rfl, .rfl, rfl⟩ rfl rfl
  exact TablesOk.chooseCurrent (TablesOk.frameSent (hseen.endAttempt.with_transmitter _) _)

/-! ### The cycle event, the boundary and the grace expiry (R20, R50, R65, R80) -/

theorem TablesOk.cycle (hs hr cs cr : Sensor) : TablesOk (s.cycle hs hr cs cr) := by
  obtain ⟨heat, cool, hw⟩ : ∃ heat cool, (s.cycle hs hr cs cr).windows =
      { s.windows with openEntry := s.windows.openEntry.map fun e => e.accrue heat cool } :=
    ⟨_, _, by unfold State.cycle; simp; rfl⟩
  exact h.of_map (grace := id) (opened := fun e => e.accrue heat cool) (ahead := id) (closed := id)
    ⟨by simp, by simp [State.cycle], by simp [State.cycle_timebase]⟩ (by simp [hw, WindowTable.mapEntries])
    (entryKept_id _) ⟨fun _ => rfl, fun _ => .rfl, fun _ hc => hc⟩ (entryKept_id _) (fun _ => ⟨rfl, rfl⟩)
    (fun _ hc => hc) (by simpa using h.table) (fun hu => by simpa using h.peers.empty hu)

omit h in
@[simp] theorem State.boundary_windows_of_none (hn : s.windows.openEntry = none) : s.boundary.windows = s.windows := by
  simp [State.boundary, hn]

omit h in
/-- R46 to R50: the three places after a boundary. -/
theorem State.boundary_windows {e : WindowEntry} (he : s.windows.openEntry = some e) :
    s.boundary.windows =
      s.windows.move { e.freeze s.items.length.seconds with reportStatus := s.station.boundaryStatus }
        s.items.length := by
  unfold State.boundary State.boundaryWindows
  simp only [he, State.periodicNotice_frame]
  split
  all_goals simp

omit h in
theorem Station.boundaryStatus_decided (x : Station) : x.boundaryStatus ≠ .undecided := by
  unfold Station.boundaryStatus
  split
  all_goals decide

/-- R46 to R50: the boundary of a commissioned station. -/
theorem TablesOk.boundary (hs : s.station.state ≠ .unconfigured) : TablesOk s.boundary := by
  obtain ⟨hopened, hahead, -, haheadIndex, -, -, -, haheadStatus, -, hclosed, -⟩ := h.windows
  obtain ⟨o, ho⟩ := Option.isSome_iff_exists.mp (hopened.mpr hs)
  obtain ⟨a, ha⟩ := Option.isSome_iff_exists.mp (hahead.trans (hopened.mpr hs))
  have hw := s.boundary_windows ho
  have hs' : s.boundary.station.state ≠ .unconfigured := by simpa using hs
  constructor
  · constructor
    case opened => simp [hw, WindowTable.move, ha, hs]
    case ahead => simp [hw, WindowTable.move, ha]
    case empty => exact fun hu => absurd hu hs'
    case aheadIndex =>
      intro x y hx hy
      simp only [hw, WindowTable.move, ha, Option.map_some, Option.some.injEq] at hx hy
      subst hx hy
      simp [WindowEntry.fresh]
    case graceIndex =>
      intro x y hx hy
      simp only [hw, WindowTable.move, ha, Option.some.injEq] at hx hy
      subst hx hy
      simpa [WindowEntry.freeze] using haheadIndex o a ho ha
    case armed => simp [hw, WindowTable.move]
    case openStatus =>
      intro x hx
      simp only [hw, WindowTable.move] at hx
      exact haheadStatus x hx
    case aheadStatus =>
      intro x hx
      simp only [hw, WindowTable.move, ha, Option.map_some, Option.some.injEq] at hx
      subst hx
      rfl
    case graceStatus =>
      intro x hx
      simp only [hw, WindowTable.move, Option.some.injEq] at hx
      subst hx
      exact s.station.boundaryStatus_decided
    case closedStatus =>
      intro c hc
      simp only [hw, WindowTable.move] at hc
      exact hclosed c hc
    case aheadOwn =>
      intro x hx
      simp only [hw, WindowTable.move, ha, Option.map_some, Option.some.injEq] at hx
      subst hx
      exact ⟨rfl, rfl⟩
  · constructor
    case ascending => simpa using h.peers.ascending
    case addresses => simpa using h.peers.addresses
    case empty => exact fun hu => absurd hu hs'
    case missed => simpa using h.peers.missed
    case grace =>
      intro x hx
      simp only [hw, WindowTable.move, Option.some.injEq] at hx
      subst hx
      simpa [WindowEntry.freeze] using h.peers.opened o ho
    case opened =>
      intro x hx
      simp only [hw, WindowTable.move] at hx
      simpa using h.peers.ahead x hx
    case ahead =>
      intro x hx
      simp only [hw, WindowTable.move, ha, Option.map_some, Option.some.injEq] at hx
      subst hx
      exact contributorsOk_nil _

omit h in
@[simp] theorem State.closeWindow_peers (w : WindowEntry) : (s.closeWindow w).peers = upkeep w.contributors s.peers := by
  unfold State.closeWindow
  dsimp only
  split
  all_goals simp

omit h in
/-- R62, R65: the tables after a grace expiry. -/
theorem State.graceExpiry_tables {e : WindowEntry} (he : s.windows.graceEntry = some e) :
    s.graceExpiry.windows =
      { s.windows with
        graceEntry := none
        closedReport := some ⟨e.index, s.transmitter.statusAtExpiry e.reportStatus⟩ } ∧
    s.graceExpiry.peers = upkeep e.contributors s.peers := by
  unfold State.graceExpiry
  simp [he]

omit h in
theorem Transmitter.statusAtExpiry_decided (t : Transmitter) {x : ReportStatus} (hx : x ≠ .undecided) :
    t.statusAtExpiry x ≠ .undecided := by
  unfold Transmitter.statusAtExpiry
  split
  exacts [by decide, hx]

/-- R62, R65, R80: the GRACE entry leaves the table. -/
theorem TablesOk.graceExpiry : TablesOk s.graceExpiry := by
  cases hg : s.windows.graceEntry with
  | none =>
    have harmed : s.timebase.graceArmed = false := by simpa [hg] using h.windows.armed.symm
    refine h.of_same ⟨by simp, by simp, by simp [harmed]⟩ ?_ ?_
    all_goals simp [State.graceExpiry, hg]
  | some e =>
    have hs : s.station.state ≠ .unconfigured := fun hu => by simp [h.windows.empty hu, WindowTable.reset] at hg
    have hs' : s.graceExpiry.station.state ≠ .unconfigured := by simpa using hs
    obtain ⟨hw, hp⟩ := s.graceExpiry_tables hg
    obtain ⟨hopened, hahead, -, haheadIndex, -, -, hopenStatus, haheadStatus, hgraceStatus, -, haheadOwn⟩ := h.windows
    constructor
    · constructor
      case opened => simpa [hw] using hopened
      case ahead => simpa [hw] using hahead
      case empty => exact fun hu => absurd hu hs'
      case aheadIndex => simpa [hw] using haheadIndex
      case graceIndex => simp [hw]
      case armed => simp [hw]
      case openStatus => simpa [hw] using hopenStatus
      case aheadStatus => simpa [hw] using haheadStatus
      case graceStatus => simp [hw]
      case closedStatus =>
        intro c hc
        simp only [hw, Option.some.injEq] at hc
        subst hc
        exact s.transmitter.statusAtExpiry_decided (hgraceStatus e hg)
      case aheadOwn => simpa [hw] using haheadOwn
    · have htable : PeerTableOk s.graceExpiry.items s.graceExpiry.peers := by
        rw [hp]
        simpa using h.table.upkeep e.contributors
      constructor
      case ascending => exact htable.ascending
      case addresses => exact htable.addresses
      case empty => exact fun hu => absurd hu hs'
      case missed => exact htable.missed
      case grace => simp [hw]
      case opened => simpa [hw] using h.peers.opened
      case ahead => simpa [hw] using h.peers.ahead

/-! ### Station control (R44, R145, R147) -/

/-- R44: COMMISSION creates OPEN and AHEAD with no contributors. -/
theorem TablesOk.commission (hs : s.station.state = .unconfigured) :
    TablesOk (s.commissionBlocks.commissionLine.requestNotice .joining) := by
  have hpeers := h.peers.empty hs
  constructor
  · constructor
    case empty => intro hu; simp [State.commissionBlocks] at hu
    all_goals
      simp [State.commissionBlocks, WindowTable.commission, Timebase.commission, WindowEntry.fresh]
  · constructor
    case empty => intro hu; simp [State.commissionBlocks] at hu
    all_goals
      simp [State.commissionBlocks, WindowTable.commission, WindowEntry.fresh, hpeers, contributorsOk_nil, Ascending]

/-- In UNCONFIGURED, where both tables are empty, whatever becomes of the items. -/
theorem TablesOk.of_empty {t : State} (hs : s.station.state = .unconfigured) (hst : t.station.state = .unconfigured)
    (ha : t.timebase.graceArmed = s.timebase.graceArmed) (hw : t.windows = s.windows) (hp : t.peers = s.peers) :
    TablesOk t := by
  have hempty := h.windows.empty hs
  have harmed := h.windows.armed
  rw [hempty] at harmed
  exact tablesOk_of_unconfigured hst (hw.trans hempty) (ha.trans harmed.symm) (hp.trans (h.peers.empty hs))

theorem TablesOk.enterBackup (b : Bool) : TablesOk { s with pfailnHigh := b }.enterBackup := by
  have hlow : TablesOk { s with pfailnHigh := b } := h.of_same ⟨rfl, .rfl, rfl⟩ rfl rfl
  have hexpired : TablesOk { s with pfailnHigh := b }.withdrawExpired := by
    unfold State.withdrawExpired
    split
    exacts [hlow.settleClosedReport (by decide), hlow]
  refine hexpired.of_same ⟨by simp, ?_, by simp⟩ ?_ (by simp)
  · rw [enterBackup_station]
    by_cases hq : s.transmitter.announcesQuiet = true ∧ s.station.state = .quieting <;> simp [hq]
  · simp [State.enterBackup]

theorem TablesOk.restartLine : TablesOk (restartLineEffect s).1 := by
  refine (TablesOk.settleClosedReport (h.settleGraceReport (outcome := .discarded) (by decide))
    (outcome := .discarded) (by decide)).of_same ?_ ?_ ?_
  · exact ⟨by simp [restartLineEffect], by simp [restartLineEffect], by simp [restartLineEffect]⟩
  · simp [restartLineEffect]
  · simp [restartLineEffect]

theorem TablesOk.returnToMains : TablesOk s.returnToMains :=
  h.of_same ⟨by simp, by simp [State.returnToMains], by simp⟩ (by simp) (by simp)

omit h in
theorem tablesOk_fullReset (s : State) (r : Bool) : TablesOk { s.fullReset with rstnHigh := r } :=
  tablesOk_of_unconfigured rfl rfl rfl rfl

theorem TablesOk.enter_requestNotice {x : StationState} (hx : x ≠ .unconfigured)
    (hs : s.station.state ≠ .unconfigured) (a : NoticeState) : TablesOk ((s.enter x).requestNotice a) :=
  TablesOk.requestNotice (s := s.enter x) (h.of_same ⟨rfl, iff_of_false hx hs, rfl⟩ rfl rfl) a

/-! ### The settled statement -/

omit h in
@[simp] theorem Timebase.endSecond_graceArmed (t : Timebase) (l : WindowLength) (grace : Nat) :
    (t.endSecond l grace).graceArmed = t.graceArmed := by
  unfold Timebase.endSecond
  dsimp only
  split
  all_goals simp [Timebase.fixLength]

theorem TablesOk.preserves (hst : StationOk s) (hclock : ClockOk s) : Preserves TablesOk s where
  port := fun _ _ hu => hu.of_same ⟨rfl, .rfl, rfl⟩ rfl rfl
  writeItem := fun hs code value => by
    unfold writeItemEffect
    split
    exacts [h, h.of_empty hs (by simpa using hs) (by simp) (by simp) (by simp)]
  holidayAdd := fun hs _ => h.of_empty hs hs rfl rfl rfl
  holidayClear := fun hs _ => h.of_empty hs hs rfl rfl rfl
  setClock := fun _ _ _ => by
    unfold setClockEffect
    split
    exacts [h, h.of_same ⟨rfl, .rfl, rfl⟩ rfl rfl]
  trimClock := fun _ _ => by
    unfold trimClockEffect Timebase.settleSlew
    repeat' split
    exacts [h, h.of_same ⟨rfl, .rfl, rfl⟩ rfl rfl, h.of_same ⟨rfl, .rfl, rfl⟩ rfl rfl]
  commission := fun hs _ => h.commission hs
  quiet := fun hs _ _ => h.enter_requestNotice (by decide) hs _
  speak := fun hs => h.enter_requestNotice (by decide) (by rcases hs with hs | hs <;> simp [hs]) _
  snapshot := fun _ => by
    unfold snapshotEffect
    repeat' split
    exacts [h, h.of_same ⟨by simp, by simp, by simp⟩ (by simp) (by simp), h]
  releaseRecord := by
    unfold releaseEffect
    repeat' split
    exacts [h, h.of_same ⟨rfl, .rfl, rfl⟩ rfl rfl, h.of_same ⟨by simp, by simp, by simp⟩ (by simp) (by simp)]
  clearQueue := h.of_same ⟨rfl, .rfl, rfl⟩ rfl rfl
  readCause := h.of_same ⟨rfl, .rfl, rfl⟩ rfl rfl
  setEnables := fun _ _ _ => by
    unfold setEnablesEffect
    split
    exacts [h, h.of_same ⟨rfl, .rfl, rfl⟩ rfl rfl]
  clearFailure := h.of_same ⟨rfl, .rfl, rfl⟩ rfl rfl
  restartLine := fun _ => h.restartLine
  resetConverter := fun _ => h.of_same ⟨rfl, .rfl, rfl⟩ rfl rfl
  lineTestMode := fun _ mode => by
    unfold lineTestModeEffect
    repeat' split
    exacts [h, h, h.of_same ⟨by simp, by simp, by simp⟩ (by simp) (by simp)]
  sendTest := fun _ => by
    unfold sendTestEffect
    split
    exacts [h, h.of_same ⟨by simp, by simp, by simp⟩ (by simp) (by simp)]
  reset := fun _ => tablesOk_fullReset s s.rstnHigh
  rstnFalling := fun _ => tablesOk_fullReset s false
  rstnRising := fun _ => tablesOk_fullReset s true
  flowPulse := fun _ _ => h.of_same ⟨rfl, .rfl, rfl⟩ rfl rfl
  pfailnFollow := fun _ _ => h.of_same ⟨rfl, .rfl, rfl⟩ rfl rfl
  pfailnFallingBackup := fun _ _ _ => h.of_same ⟨rfl, .rfl, rfl⟩ rfl rfl
  pfailnFalling := fun _ _ _ => h.enterBackup false
  pfailnRisingBackup := fun _ _ _ => by
    unfold State.leaveBackup
    dsimp only
    split
    · exact TablesOk.returnToMains (h.of_same ⟨rfl, .rfl, rfl⟩ rfl rfl)
    · exact h.of_same ⟨rfl, .rfl, rfl⟩ rfl rfl
  pfailnRising := fun _ _ _ => h.of_same ⟨rfl, .rfl, rfl⟩ rfl rfl
  recoveryEnd := fun _ _ => h.returnToMains
  countedSecondEnd := fun _ _ _ => h.of_same ⟨rfl, .rfl, by simp⟩ rfl rfl
  slewStep := fun _ => h.of_same ⟨rfl, .rfl, by unfold Timebase.settleSlew; split <;> rfl⟩ rfl rfl
  cycleEvent := fun _ _ => h.cycle
  converterRestartEnd := fun _ _ => h.of_same ⟨rfl, .rfl, rfl⟩ rfl rfl
  windowBoundary := fun _ hdue _ => h.boundary fun hu => by
    simp [hclock.due_of_off (hst.boundaryOff hu), Due.reset] at hdue
  dayBoundary := fun _ _ => h.of_same ⟨rfl, .rfl, rfl⟩ rfl rfl
  graceExpiry := fun _ _ => h.graceExpiry
  idleGap := fun _ _ => h.idleGap
  character := fun _ _ => h.character
  frameReceived := fun _ => h.judgeWaiting
  backoffExpiry := fun _ _ => h.of_same ⟨rfl, .rfl, rfl⟩ rfl rfl
  txCollision := fun _ _ => h.collide
  txSuccess := fun _ _ => h.succeed
  lineStuck := fun _ _ => h.of_same ⟨by simp, by simp, by simp⟩ (by simp) (by simp)
  irqnPulseEnd := fun _ => h.of_same ⟨rfl, .rfl, rfl⟩ rfl rfl
  startBit := fun _ _ => h.of_same ⟨rfl, .rfl, rfl⟩ rfl rfl

end

/-- Settles O56: both tables through every command (`TablesOk.preserves`); a boundary finds OPEN and AHEAD because no event
is issued in UNCONFIGURED. -/
theorem stepKeepsWindowsAndPeers : Obligations.StepKeepsWindowsAndPeers := by
  unfold Obligations.StepKeepsWindowsAndPeers
  intro s t _ hst hclock hwindows hpeers hstep
  have h : TablesOk s := ⟨hwindows, hpeers⟩
  have htick : SamePlaces s s.tick := ⟨by simp, by simp, by unfold State.tick; split <;> rfl⟩
  obtain ⟨hw, hp⟩ : TablesOk t :=
    step_keeps hstep h (fun _ _ hu => hu.of_same ⟨rfl, .rfl, rfl⟩ rfl rfl)
      (h.of_same htick (by simp) (by simp)) fun q =>
      TablesOk.preserves (h.of_same ⟨rfl, .rfl, rfl⟩ rfl rfl) (hst.with_pending q) (hclock.of_eq rfl rfl)
  exact ⟨hw, hp⟩

end Sys2Proof.Machine

/-! SUPPORT. The Line Transmitter and its queue: the parts of R131 to R147 that speak of the transmitter alone, those that
speak of what its slots hold, and how the choice of the current frame keeps both. -/

namespace Sys2Proof.Machine

/-! ### The transmitter alone (R131, R133, R137, R143) -/

/-- R131, R137, R143: the two timers of the transmitter. -/
structure TimersOk (t : Transmitter) : Prop where
  backoff : t.backoffSlots ≤ 127 ∧ (t.state ≠ .backoff → t.backoffSlots = 0)
  stuck : t.stuckTimer ≤ stuckLimit ∧ (t.state ≠ .waitIdle → t.stuckTimer = 0)

/-- R131 to R137, R143: the transmitter's state, its current frame, its timers and its marks. -/
structure TransmitterOk (t : Transmitter) : Prop where
  idle : t.state = .idle ↔ t.current = none
  choice : t.state ≠ .sending → t.current = t.wanted
  reportCurrent : t.current = some .report → t.report.isSome = true
  noticeCurrent : t.current = some .notice → t.notice.isSome = true
  followOn : t.followOn ≠ none → t.isSending .notice = true
  expired : ∀ r, t.report = some r → r.expired = true → t.isSending .report = true
  timers : TimersOk t

/-- What the choice of the current frame starts from: no attempt runs, so no mark of one stands. -/
structure Choosable (t : Transmitter) : Prop where
  rests : t.state ≠ .sending
  idle : t.state = .idle → t.current = none
  followOn : t.followOn = none
  expired : ∀ r, t.report = some r → r.expired = false
  timers : TimersOk t

theorem Transmitter.wanted_none {t : Transmitter} : t.wanted = none ↔ t.report = none ∧ t.notice = none := by
  unfold Transmitter.wanted
  cases t.report <;> cases t.notice <;> simp

theorem Transmitter.wanted_report {t : Transmitter} : t.wanted = some .report ↔ t.report.isSome = true := by
  unfold Transmitter.wanted
  cases t.report <;> cases t.notice <;> simp

theorem Transmitter.wanted_notice {t : Transmitter} :
    t.wanted = some .notice ↔ t.report = none ∧ t.notice.isSome = true := by
  unfold Transmitter.wanted
  cases t.report <;> cases t.notice <;> simp

theorem Transmitter.wanted_congr {t u : Transmitter} (hr : u.report.isSome = t.report.isSome)
    (hn : u.notice.isSome = t.notice.isSome) : u.wanted = t.wanted := by
  unfold Transmitter.wanted
  rw [hr, hn]

theorem contentionWindow_le (attempts : Nat) : contentionWindow attempts ≤ 128 := min_le_right _ _

theorem contentionWindow_pos (attempts : Nat) : 0 < contentionWindow attempts :=
  lt_min (Nat.mul_pos (by decide) (Nat.two_pow_pos attempts)) (by decide)

theorem backoffOf_le (address attempts seed : Nat) : backoffOf address attempts seed ≤ 127 := by
  have hlt := Nat.mod_lt (5 * address + 3 * attempts + seed) (contentionWindow_pos attempts)
  have hle := contentionWindow_le attempts
  unfold backoffOf
  omega

theorem TransmitterOk.sending_current {t : Transmitter} (h : TransmitterOk t) (hs : t.state = .sending) :
    t.current ≠ none := fun hc => by simp [h.idle.mpr hc] at hs

theorem TransmitterOk.choosable {t : Transmitter} (h : TransmitterOk t) (hs : t.state ≠ .sending) : Choosable t where
  rests := hs
  idle := h.idle.mp
  followOn := by
    by_contra hne
    have := h.followOn hne
    simp [Transmitter.isSending, hs] at this
  expired := fun r hr => by
    by_contra hne
    have := h.expired r hr (by simpa using hne)
    simp [Transmitter.isSending, hs] at this
  timers := h.timers

/-- R132, R133: a frame enters or leaves a slot that is not in transmission. -/
theorem Choosable.notCurrent {t : Transmitter} (h : Choosable t) (slot : Slot) : Choosable (t.notCurrent slot) where
  rests := by simpa using h.rests
  idle := fun hi => by
    have hc := h.idle (by simpa using hi)
    unfold Transmitter.notCurrent
    split
    exacts [rfl, hc]
  followOn := by simpa using h.followOn
  expired := by simpa using h.expired
  timers := ⟨by simpa using h.timers.backoff, by simpa using h.timers.stuck⟩

/-- The slots filled or emptied otherwise. -/
theorem Choosable.with_slots {t : Transmitter} (h : Choosable t) {report : Option ReportSlot}
    (hr : ∀ r, report = some r → r.expired = false) (notice : Option NoticeSlot) (failure : TxFailure) :
    Choosable { t with report := report, notice := notice, lastFailure := failure } :=
  ⟨h.rests, h.idle, h.followOn, hr, ⟨h.timers.backoff, h.timers.stuck⟩⟩

theorem State.enterWaitIdle_timers {s : State} (h : s.transmitter.stuckTimer ≤ stuckLimit) :
    TimersOk s.enterWaitIdle.transmitter := by
  unfold State.enterWaitIdle
  split
  · exact ⟨⟨backoffOf_le _ _ _, fun hb => absurd rfl hb⟩, ⟨Nat.zero_le _, fun _ => rfl⟩⟩
  · exact ⟨by simp, by simpa using h⟩

theorem TimersOk.becomeIdle (t : Transmitter) : TimersOk t.becomeIdle :=
  ⟨⟨Nat.zero_le _, fun _ => rfl⟩, ⟨Nat.zero_le _, fun _ => rfl⟩⟩

/-- R133: the choice leaves the transmitter in order. -/
theorem Choosable.chooseCurrent {s : State} (h : Choosable s.transmitter) :
    TransmitterOk s.chooseCurrent.transmitter := by
  obtain ⟨hcurrent, hidle, hrests⟩ := s.chooseCurrent_current h.rests h.idle
  have hwanted : s.chooseCurrent.transmitter.wanted = s.transmitter.wanted :=
    Transmitter.wanted_congr (by simp) (by simp)
  constructor
  case idle => rw [hidle, hcurrent]
  case choice => exact fun _ => hcurrent.trans hwanted.symm
  case reportCurrent => exact fun hc => Transmitter.wanted_report.mp (hwanted.trans (hcurrent.symm.trans hc))
  case noticeCurrent => exact fun hc => (Transmitter.wanted_notice.mp (hwanted.trans (hcurrent.symm.trans hc))).2
  case followOn => exact fun hf => absurd (by simpa using h.followOn) hf
  case expired =>
    intro r hr he
    obtain ⟨q, hq, -, -, -, hmark⟩ := s.chooseCurrent_report r hr
    simp [← hmark, h.expired q hq] at he
  case timers =>
    unfold State.chooseCurrent
    repeat' split
    · exact h.timers
    · exact .becomeIdle _
    · exact h.timers
    · exact State.enterWaitIdle_timers h.timers.stuck.1

/-! ### What the slots hold (R132, R141, R142, R147) -/

/-- R131, R132, R141, R147: the frames in the slots, against the station state and the grace expiry of their moment. -/
structure SlotsOk (s : State) : Prop where
  reportAttempts : ∀ r, s.transmitter.report = some r →
    r.attempts < 8 ∨ r.attempts = 8 ∧ (r.expired = true ∨ s.expiryFollows r.content = true)
  noticeAttempts : ∀ n, s.transmitter.notice = some n → n.attempts < 8
  oneMoment : s.timebase.due.windowBoundary = true → s.timebase.due.graceExpiry = false
  reportKind : ∀ r, s.transmitter.report = some r → r.content.suits s.station.state
  noticeKind : s.station.state = .unconfigured → s.transmitter.notice = none
  quieting : s.station.state = .quieting → s.transmitter.quietPending

theorem lineQueueOk_iff (s : State) : LineQueueOk s ↔ TransmitterOk s.transmitter ∧ SlotsOk s := by
  constructor
  · intro h
    exact ⟨⟨h.idle, h.choice, h.reportCurrent, h.noticeCurrent, h.followOn, h.expired, h.backoff, h.stuck⟩,
      ⟨h.reportAttempts, h.noticeAttempts, h.oneMoment, h.reportKind, h.noticeKind, h.quieting⟩⟩
  · rintro ⟨ht, hs⟩
    exact ⟨ht.idle, ht.choice, ht.reportCurrent, ht.noticeCurrent, ht.followOn, ht.expired, ht.timers.backoff,
      ht.timers.stuck, hs.reportAttempts, hs.noticeAttempts, hs.oneMoment, hs.reportKind, hs.noticeKind, hs.quieting⟩

/-- The moment of a report: the grace expiry issued, and the status of the GRACE entry. -/
structure SameMoment (s t : State) : Prop where
  due : t.timebase.due.graceExpiry = s.timebase.due.graceExpiry
  boundary : t.timebase.due.windowBoundary = s.timebase.due.windowBoundary
  status : t.windows.graceEntry.map WindowEntry.reportStatus = s.windows.graceEntry.map WindowEntry.reportStatus

theorem SameMoment.refl (s : State) : SameMoment s s := ⟨rfl, rfl, rfl⟩

theorem SameMoment.of_eq {s t : State} (ht : t.timebase = s.timebase) (hw : t.windows = s.windows) : SameMoment s t :=
  ⟨by rw [ht], by rw [ht], by rw [hw]⟩

theorem SameMoment.trans {s t u : State} (h : SameMoment s t) (k : SameMoment t u) : SameMoment s u :=
  ⟨k.due.trans h.due, k.boundary.trans h.boundary, k.status.trans h.status⟩

theorem SameMoment.expiryFollows {s t : State} (h : SameMoment s t) (c : ReportContent) :
    t.expiryFollows c = s.expiryFollows c := by
  unfold State.expiryFollows
  rw [h.due, h.status]

/-- What a slot holds, but for the marks and the second-of-day a frame gets in it. -/
structure SameSlots (t u : Transmitter) : Prop where
  report : ∀ r, u.report = some r → ∃ q, t.report = some q ∧ q.attempts = r.attempts ∧ q.expired = r.expired ∧
    (∀ x, q.content.suits x ↔ r.content.suits x) ∧ ∀ s : State, s.expiryFollows q.content = s.expiryFollows r.content
  notice : ∀ n, u.notice = some n → ∃ q, t.notice = some q ∧ q.attempts = n.attempts ∧
    q.notice.announced = n.notice.announced
  noticePresent : u.notice.isSome = t.notice.isSome
  followOn : u.followOn = t.followOn

theorem SameSlots.of_eq {t u : Transmitter} (hr : u.report = t.report) (hn : u.notice = t.notice)
    (hf : u.followOn = t.followOn) : SameSlots t u :=
  ⟨fun r h => ⟨r, hr ▸ h, rfl, rfl, fun _ => .rfl, fun _ => rfl⟩, fun n h => ⟨n, hn ▸ h, rfl, rfl⟩, by rw [hn], hf⟩

theorem SameSlots.trans {t u v : Transmitter} (h : SameSlots t u) (k : SameSlots u v) : SameSlots t v where
  report := fun r hr => by
    obtain ⟨p, hp, ha, he, hs, hx⟩ := k.report r hr
    obtain ⟨q, hq, ha', he', hs', hx'⟩ := h.report p hp
    exact ⟨q, hq, ha'.trans ha, he'.trans he, fun x => (hs' x).trans (hs x), fun x => (hx' x).trans (hx x)⟩
  notice := fun n hn => by
    obtain ⟨p, hp, ha, he⟩ := k.notice n hn
    obtain ⟨q, hq, ha', he'⟩ := h.notice p hp
    exact ⟨q, hq, ha'.trans ha, he'.trans he⟩
  noticePresent := k.noticePresent.trans h.noticePresent
  followOn := k.followOn.trans h.followOn

theorem SameSlots.quietPending {t u : Transmitter} (h : SameSlots t u) (hq : t.quietPending) : u.quietPending := by
  rcases hq with hf | ⟨hf, n, hn, hquiet⟩
  · exact .inl (h.followOn.trans hf)
  · obtain ⟨m, hm⟩ := Option.isSome_iff_exists.mp (h.noticePresent.trans (by rw [hn]; rfl))
    obtain ⟨q, hq, -, ha⟩ := h.notice m hm
    rw [hn, Option.some.injEq] at hq
    exact .inr ⟨h.followOn.trans hf, m, hm, by rw [← ha, ← hq, hquiet]⟩

theorem SlotsOk.of_same {s t : State} (h : SlotsOk s) (k : SameSlots s.transmitter t.transmitter) (m : SameMoment s t)
    (hs : t.station.state = s.station.state) : SlotsOk t where
  reportAttempts := fun r hr => by
    obtain ⟨q, hq, ha, he, -, hx⟩ := k.report r hr
    rw [m.expiryFollows, ← ha, ← he, ← hx]
    exact h.reportAttempts q hq
  noticeAttempts := fun n hn => by
    obtain ⟨q, hq, ha, -⟩ := k.notice n hn
    exact ha ▸ h.noticeAttempts q hq
  oneMoment := by
    rw [m.boundary, m.due]
    exact h.oneMoment
  reportKind := fun r hr => by
    obtain ⟨q, hq, -, -, hsuits, -⟩ := k.report r hr
    rw [hs, ← hsuits]
    exact h.reportKind q hq
  noticeKind := fun hu => by
    have hnone := h.noticeKind (hs ▸ hu)
    simpa [hnone] using k.noticePresent
  quieting := fun hq => k.quietPending (h.quieting (hs ▸ hq))

theorem State.chooseCurrent_slots (s : State) : SameSlots s.transmitter s.chooseCurrent.transmitter where
  report := fun r hr => by
    obtain ⟨q, hq, hcontent, hattempts, -, hexpired⟩ := s.chooseCurrent_report r hr
    exact ⟨q, hq, hattempts, hexpired, fun _ => by rw [hcontent], fun _ => by rw [hcontent]⟩
  notice := fun n hn => by
    obtain ⟨q, hq, hnotice, hattempts, -⟩ := s.chooseCurrent_notice n hn
    exact ⟨q, hq, hattempts, by rw [hnotice]⟩
  noticePresent := by simp
  followOn := by simp

theorem State.reportStuck_slots (s : State) : SameSlots s.transmitter s.reportStuck.transmitter where
  report := fun r hr => by
    obtain ⟨q, hq, hcontent, hattempts, -, hexpired⟩ := s.reportStuck_report r hr
    exact ⟨q, hq, hattempts, hexpired, fun _ => by rw [hcontent], fun _ => by rw [hcontent]⟩
  notice := fun n hn => by
    obtain ⟨q, hq, hnotice, hattempts, -⟩ := s.reportStuck_notice n hn
    exact ⟨q, hq, hattempts, by rw [hnotice]⟩
  noticePresent := by simp
  followOn := by simp

theorem SlotsOk.chooseCurrent {s : State} (h : SlotsOk s) : SlotsOk s.chooseCurrent :=
  h.of_same s.chooseCurrent_slots (.of_eq (by simp) (by simp)) (by simp)

/-- R133: the choice from a resting transmitter whose slots are in order. -/
theorem LineQueueOk.chosen {s : State} (ht : Choosable s.transmitter) (hs : SlotsOk s) : LineQueueOk s.chooseCurrent :=
  (lineQueueOk_iff _).mpr ⟨ht.chooseCurrent, hs.chooseCurrent⟩

end Sys2Proof.Machine

/-! SUPPORT. The Line Receiver (R110 to R116) and what reception does to it, and to the moment of a report. -/

namespace Sys2Proof.Machine

/-! ### The receiver alone (R110, R112, R115, R116) -/

/-- R110, R112, R116: the gap timer and the frame in progress, by the parser's state. -/
structure FrameOk (r : Receiver) : Prop where
  rest : r.parser = .off → r.gapTimer = 0 ∧ r.charInProgress = false
  gap : r.gapTimer ≤ 4
  noFrame : r.parser ≠ .inFrame → r.frame = []
  frame : r.parser = .inFrame → FrameShape r.frame

theorem ReceiverOk.frameOk {s : State} (h : ReceiverOk s) : FrameOk s.receiver := ⟨h.rest, h.gap, h.noFrame, h.frame⟩

/-- The parser stands in OFF, and in HELD, as it did. -/
structure SameGates (r q : Receiver) : Prop where
  off : q.parser = .off ↔ r.parser = .off
  held : q.parser = .held ↔ r.parser = .held

theorem SameGates.of_eq {r q : Receiver} (h : q.parser = r.parser) : SameGates r q := ⟨by rw [h], by rw [h]⟩

theorem SameGates.trans {r q p : Receiver} (h : SameGates r q) (k : SameGates q p) : SameGates r p :=
  ⟨k.off.trans h.off, k.held.trans h.held⟩

/-- A step in which the parser passes neither into nor out of OFF and HELD. -/
theorem ReceiverOk.of_gates {s t : State} (h : ReceiverOk s) (k : SameGates s.receiver t.receiver)
    (hf : FrameOk t.receiver) (hon : t.receiverOn = s.receiverOn)
    (hstate : t.transmitter.state = .sending ↔ s.transmitter.state = .sending)
    (hmode : t.transmitter.testMode = s.transmitter.testMode)
    (hbackoff : t.transmitter.state = .backoff → s.receiverOn = true) : ReceiverOk t where
  off := by rw [k.off, hon, h.off]
  rest := hf.rest
  gap := hf.gap
  held := by rw [k.held, h.held, hstate, hmode]
  noFrame := hf.noFrame
  frame := hf.frame
  attempt := by
    rintro (hb | hs)
    · exact hon.trans (hbackoff hb)
    · exact hon ▸ h.attempt (.inr (hstate.mp hs))

/-- The receiver as it stands after being turned on or off, with no attempt running. -/
theorem receiverOk_of_fresh {t : State} (hp : t.receiver.parser = if t.receiverOn then .waitGap else .off)
    (hg : t.receiver.gapTimer = 0) (hf : t.receiver.frame = []) (hc : t.receiver.charInProgress = false)
    (hs : t.transmitter.state = .idle ∨ t.transmitter.state = .waitIdle) : ReceiverOk t := by
  have hstate : t.transmitter.state ≠ .sending ∧ t.transmitter.state ≠ .backoff := by rcases hs with hs | hs <;> simp [hs]
  constructor
  case off => cases hon : t.receiverOn <;> simp [hp, hon]
  case rest => exact fun _ => ⟨hg, hc⟩
  case gap => omega
  case held => cases hon : t.receiverOn <;> simp [hp, hon, hstate.1]
  case noFrame => exact fun _ => hf
  case frame => cases hon : t.receiverOn <;> simp [hp, hon]
  case attempt => exact fun ha => by simp [hstate.1, hstate.2] at ha

/-! ### The frame in progress (R115, R116, R120) -/

theorem frameShape_lead : FrameShape [leadOctet] := rfl

/-- R115, R116, R120: one more octet of a frame that lacks some, where its structure does not fail. -/
theorem FrameShape.append {l : List Octet} (h : FrameShape l) (hc : frameComplete l = false) {o : Octet}
    (hs : structureFails (l ++ [o]) = false) : FrameShape (l ++ [o]) := by
  match l with
  | [] => exact absurd h (by simp [FrameShape])
  | [lead] =>
    exact ⟨h, by simpa [structureFails] using hs⟩
  | [lead, kind] =>
    have hlength : payloadLength kind = some o.toNat := by simpa [structureFails] using hs
    exact ⟨h.1, hlength, by simp⟩
  | lead :: kind :: length :: rest =>
    obtain ⟨hlead, hlength, hrest⟩ := h
    have hshort : length.toNat + 5 ≠ rest.length + 3 := by simpa [frameComplete, hlength] using hc
    refine ⟨hlead, hlength, ?_⟩
    show (rest ++ [o]).length ≤ _
    rw [List.length_append, List.length_singleton]
    omega

theorem Receiver.takeOctet_gates (r : Receiver) (second : Nat) (octet : Octet) (stopBit : Bool) :
    SameGates r (r.takeOctet second octet stopBit) := by
  unfold Receiver.takeOctet
  split
  case h_1 | h_2 | h_3 => exact .of_eq rfl
  case h_4 hp => exact ⟨by simp [Receiver.strayError, hp], by simp [Receiver.strayError, hp]⟩
  case h_5 hp =>
    repeat' split
    all_goals exact ⟨by simp [Receiver.framingError, Receiver.strayError, hp],
      by simp [Receiver.framingError, Receiver.strayError, hp]⟩
  case h_6 hp =>
    repeat' split
    all_goals exact ⟨by simp [Receiver.framingError, Receiver.lengthError, hp],
      by simp [Receiver.framingError, Receiver.lengthError, hp]⟩

/-- R116: the parser leaves a frame in order, given that no complete frame waits. -/
theorem FrameOk.takeOctet {r : Receiver} (h : FrameOk r) (hw : r.parser = .inFrame → frameComplete r.frame = false)
    (second : Nat) (octet : Octet) (stopBit : Bool) : FrameOk (r.takeOctet second octet stopBit) := by
  have herror {e : RxErrors} : FrameOk { r with parser := .waitGap, frame := [], errors := e } :=
    ⟨fun hp => (nomatch hp), h.gap, fun _ => rfl, fun hp => (nomatch hp)⟩
  unfold Receiver.takeOctet
  split
  case h_1 | h_2 | h_3 => exact h
  case h_4 => exact herror
  case h_5 =>
    repeat' split
    · exact herror
    · next ho => exact ⟨fun hp => (nomatch hp), h.gap, fun hp => absurd rfl hp, fun _ => ho⟩
    · exact herror
  case h_6 hp =>
    repeat' split
    · exact herror
    · exact herror
    · next hfails =>
      refine ⟨fun ho => by simp [hp] at ho, h.gap, fun hn => absurd hp hn, fun _ => ?_⟩
      exact (h.frame hp).append (hw hp) (by simpa using hfails)

theorem Receiver.takeGap_gates (r : Receiver) : SameGates r r.takeGap := by
  unfold Receiver.takeGap
  split
  case h_1 | h_2 | h_3 => exact .of_eq rfl
  case h_4 hp => exact ⟨by simp [hp], by simp [hp]⟩
  case h_5 hp => exact ⟨by simp [hp], by simp [hp]⟩
  case h_6 hp => exact ⟨by simp [Receiver.lengthError, hp], by simp [Receiver.lengthError, hp]⟩

theorem FrameOk.takeGap {r : Receiver} (h : FrameOk r) (gap : Nat) (hg : gap ≤ 4) (hon : r.parser ≠ .off) :
    FrameOk { r.takeGap with gapTimer := gap } := by
  have hoff : r.takeGap.parser ≠ .off := mt r.takeGap_gates.off.mp hon
  have hleft : r.takeGap.parser ≠ .inFrame ∧ r.takeGap.frame = [] := by
    unfold Receiver.takeGap
    split
    case h_1 hp => exact ⟨by simp [hp], h.noFrame (by simp [hp])⟩
    case h_2 hp => exact ⟨by simp [hp], h.noFrame (by simp [hp])⟩
    case h_3 hp => exact ⟨by simp [hp], h.noFrame (by simp [hp])⟩
    case h_4 hp => exact ⟨by simp, h.noFrame (by simp [hp])⟩
    case h_5 hp => exact ⟨by simp, h.noFrame (by simp [hp])⟩
    case h_6 => exact ⟨by simp [Receiver.lengthError], rfl⟩
  exact ⟨fun hp => absurd hp hoff, hg, fun _ => hleft.2, fun hp => absurd hp hleft.1⟩

/-! ### A frame judged (R121, R125) -/

section
variable {s : State}

@[simp] theorem State.handReport_receiver_kept (r : WindowReport) :
    (s.handReport r).receiver.parser = s.receiver.parser ∧ (s.handReport r).receiver.frame = s.receiver.frame ∧
    (s.handReport r).receiver.gapTimer = s.receiver.gapTimer ∧
    (s.handReport r).receiver.charInProgress = s.receiver.charInProgress := by
  unfold State.handReport
  dsimp only
  split
  all_goals simp

/-- R125: whatever a good frame is, the parser stays in AFTER_FRAME. -/
theorem State.dispatch_receiver (hp : s.receiver.parser = .afterFrame) (hf : s.receiver.frame = []) (kind : Octet)
    (payload : List Octet) :
    (s.dispatch kind payload).receiver.parser = .afterFrame ∧ (s.dispatch kind payload).receiver.frame = [] ∧
    (s.dispatch kind payload).receiver.gapTimer = s.receiver.gapTimer ∧
    (s.dispatch kind payload).receiver.charInProgress = s.receiver.charInProgress := by
  unfold State.dispatch State.dispatchLineTest State.dispatchFromPeer
  dsimp only
  repeat' split
  all_goals
    simp [State.malformedFrame, Receiver.lengthError, State.ignoreFrame, State.echo, State.addressClash, hp, hf]

/-- R121: a frame that waits is judged, and the parser then stands in AFTER_FRAME; any other state of the receiver stays. -/
theorem State.judgeWaiting_receiver (s : State) :
    (s.frameWaits = false ∧ s.judgeWaiting = s) ∨
    (s.receiver.parser = .inFrame ∧ s.judgeWaiting.receiver.parser = .afterFrame ∧
      s.judgeWaiting.receiver.frame = [] ∧ s.judgeWaiting.receiver.gapTimer = s.receiver.gapTimer ∧
      s.judgeWaiting.receiver.charInProgress = s.receiver.charInProgress) := by
  unfold State.judgeWaiting
  split
  · next hw =>
    have hp : s.receiver.parser = .inFrame := by
      simp only [State.frameWaits, Bool.and_eq_true, beq_iff_eq] at hw
      exact hw.1
    refine .inr ⟨hp, ?_⟩
    unfold State.judge
    split
    · exact State.dispatch_receiver (s := { s with receiver := { s.receiver with parser := .afterFrame, frame := [] } })
        rfl rfl _ _
    · exact ⟨rfl, rfl, rfl, rfl⟩
  · next hw => exact .inl ⟨by simpa using hw, rfl⟩

theorem State.judgeWaiting_gates (s : State) : SameGates s.receiver s.judgeWaiting.receiver := by
  rcases s.judgeWaiting_receiver with ⟨-, he⟩ | ⟨hp, hp', -⟩
  · rw [he]
    exact .of_eq rfl
  · exact ⟨by simp [hp, hp'], by simp [hp, hp']⟩

/-- R116, R121: once a frame that waited has been judged, no complete frame stands in the parser. -/
theorem FrameOk.judgeWaiting (h : FrameOk s.receiver) :
    FrameOk s.judgeWaiting.receiver ∧
      (s.judgeWaiting.receiver.parser = .inFrame → frameComplete s.judgeWaiting.receiver.frame = false) := by
  rcases s.judgeWaiting_receiver with ⟨hw, he⟩ | ⟨-, hp, hf, hg, -⟩
  · rw [he]
    refine ⟨h, fun hp => ?_⟩
    simpa [State.frameWaits, hp] using hw
  · exact ⟨⟨fun ho => by simp [hp] at ho, hg ▸ h.gap, fun _ => hf, fun hi => by simp [hp] at hi⟩,
      fun hi => by simp [hp] at hi⟩

/-! ### The moment of a report through reception (R54) -/

theorem WindowTable.afterDisposition_graceStatus (w : WindowTable) (r : WindowReport) (d : Disposition) :
    (w.afterDisposition r d).graceEntry.map WindowEntry.reportStatus = w.graceEntry.map WindowEntry.reportStatus := by
  cases d
  case accepted place =>
    cases place
    case grace => simp [WindowTable.afterDisposition, WindowTable.accept, Function.comp_def, WindowEntry.accept]
    all_goals rfl
  all_goals rfl

@[simp] theorem State.handReport_graceStatus (r : WindowReport) :
    (s.handReport r).windows.graceEntry.map WindowEntry.reportStatus =
      s.windows.graceEntry.map WindowEntry.reportStatus := by
  unfold State.handReport
  dsimp only
  split
  · exact WindowTable.afterDisposition_graceStatus _ _ _
  · simp

@[simp] theorem State.judgeWaiting_graceStatus (s : State) :
    s.judgeWaiting.windows.graceEntry.map WindowEntry.reportStatus =
      s.windows.graceEntry.map WindowEntry.reportStatus := by
  unfold State.judgeWaiting State.judge State.dispatch State.dispatchFromPeer
  dsimp only
  repeat' split
  all_goals simp

theorem State.judgeWaiting_moment (s : State) : SameMoment s s.judgeWaiting := ⟨by simp, by simp, by simp⟩

theorem State.character_moment (s : State) (o : Octet) (b : Bool) : SameMoment s (s.character o b) :=
  s.judgeWaiting_moment.trans (.of_eq (by simp) (by simp [State.character]))

theorem State.idleGap_moment (s : State) : SameMoment s s.idleGap := by
  refine s.judgeWaiting_moment.trans (.of_eq (by simp) ?_)
  unfold State.idleGap
  dsimp only
  split
  all_goals simp

end

end Sys2Proof.Machine

/-! SUPPORT. Receiver and transmitter together: the line through every command, and the settling of O59. -/

namespace Sys2Proof.Machine

/-! ### The line (R110 to R147) -/

/-- R110 to R116, R131 to R147: receiver, transmitter and queue. -/
structure LineOk (s : State) : Prop where
  receiver : ReceiverOk s
  transmitter : TransmitterOk s.transmitter
  slots : SlotsOk s

theorem lineOk_iff (s : State) : LineOk s ↔ ReceiverOk s ∧ LineQueueOk s := by
  rw [lineQueueOk_iff]
  exact ⟨fun h => ⟨h.receiver, h.transmitter, h.slots⟩, fun ⟨hr, ht, hs⟩ => ⟨hr, ht, hs⟩⟩

theorem State.receiverOn_congr {s t : State} (hmode : t.station.supplyMode = s.station.supplyMode)
    (hs : t.station.state = .unconfigured ↔ s.station.state = .unconfigured)
    (ht : t.transmitter.testMode = s.transmitter.testMode) : t.receiverOn = s.receiverOn := by
  rw [Bool.eq_iff_iff, State.receiverOn_iff, State.receiverOn_iff, hmode, ht, ne_eq, hs]

/-- R132: which frames suit depends on the station's being commissioned. -/
theorem ReportContent.suits_congr {x y : StationState} (h : x = .unconfigured ↔ y = .unconfigured)
    (c : ReportContent) : c.suits x ↔ c.suits y := by
  cases c
  case windowReport => exact not_congr h
  case lineTest => exact h

theorem TransmitterOk.of_same {t u : Transmitter} (h : TransmitterOk t) (k : SameSlots t u)
    (hp : u.report.isSome = t.report.isSome) (hc : u.current = t.current)
    (hs : u.state = .sending ↔ t.state = .sending) (hi : u.state = .idle ↔ t.state = .idle) (hx : TimersOk u) :
    TransmitterOk u := by
  have hsending (slot : Slot) : u.isSending slot = t.isSending slot := by
    rw [Bool.eq_iff_iff]
    simp [Transmitter.isSending, hs, hc]
  constructor
  case idle => rw [hi, hc, h.idle]
  case choice => rw [ne_eq, hs, hc, Transmitter.wanted_congr hp k.noticePresent]; exact h.choice
  case reportCurrent => rw [hc, hp]; exact h.reportCurrent
  case noticeCurrent => rw [hc, k.noticePresent]; exact h.noticeCurrent
  case followOn => rw [k.followOn, hsending]; exact h.followOn
  case expired =>
    intro r hr he
    obtain ⟨q, hq, -, hmark, -⟩ := k.report r hr
    rw [hsending]
    exact h.expired q hq (hmark.trans he)
  case timers => exact hx

/-- A transmitter in SENDING, with whatever its slots hold. -/
theorem transmitterOk_of_sending {t : Transmitter} {slot : Slot} (hs : t.state = .sending) (hc : t.current = some slot)
    (hr : slot = .report → t.report.isSome = true) (hn : slot = .notice → t.notice.isSome = true)
    (hf : t.followOn ≠ none → slot = .notice) (he : ∀ r, t.report = some r → r.expired = true → slot = .report)
    (hx : TimersOk t) : TransmitterOk t where
  idle := by simp [hs, hc]
  choice := fun hne => absurd hs hne
  reportCurrent := fun h => hr (by simpa [hc] using h)
  noticeCurrent := fun h => hn (by simpa [hc] using h)
  followOn := fun h => by simp [Transmitter.isSending, hs, hc, hf h]
  expired := fun r h he' => by simp [Transmitter.isSending, hs, hc, he r h he']
  timers := hx

/-- R133, R139: the slot of a running attempt, and what its marks say of it. -/
theorem TransmitterOk.sending {t : Transmitter} (h : TransmitterOk t) (hs : t.state = .sending) :
    ∃ slot, t.current = some slot ∧ (slot = .report → t.report.isSome = true) ∧
      (slot = .notice → t.notice.isSome = true) ∧ (t.followOn ≠ none → slot = .notice) ∧
      ∀ r, t.report = some r → r.expired = true → slot = .report := by
  obtain ⟨slot, hc⟩ := Option.ne_none_iff_exists'.mp (h.sending_current hs)
  have hsending {x : Slot} (hx : t.isSending x = true) : slot = x := by
    simpa [Transmitter.isSending, hs, hc] using hx
  exact ⟨slot, hc, fun hx => h.reportCurrent (hx ▸ hc), fun hx => h.noticeCurrent (hx ▸ hc),
    fun hf => hsending (h.followOn hf), fun r hr he => hsending (h.expired r hr he)⟩

theorem SlotsOk.of_notice {s t : State} (h : SlotsOk s) (hr : t.transmitter.report = s.transmitter.report)
    (m : SameMoment s t) (hs : t.station.state = .unconfigured ↔ s.station.state = .unconfigured)
    (hn : ∀ n, t.transmitter.notice = some n → n.attempts < 8)
    (hk : t.station.state = .unconfigured → t.transmitter.notice = none)
    (hq : t.station.state = .quieting → t.transmitter.quietPending) : SlotsOk t where
  reportAttempts := fun r hx => by
    rw [m.expiryFollows]
    exact h.reportAttempts r (hr ▸ hx)
  noticeAttempts := hn
  oneMoment := by
    rw [m.boundary, m.due]
    exact h.oneMoment
  reportKind := fun r hx => (ReportContent.suits_congr hs _).mpr (h.reportKind r (hr ▸ hx))
  noticeKind := hk
  quieting := hq

theorem SlotsOk.of_report {s t : State} (h : SlotsOk s) (hn : t.transmitter.notice = s.transmitter.notice)
    (hf : t.transmitter.followOn = s.transmitter.followOn) (hs : t.station.state = s.station.state)
    (hd : t.timebase.due.windowBoundary = true → t.timebase.due.graceExpiry = false)
    (hr : ∀ r, t.transmitter.report = some r →
      (r.attempts < 8 ∨ r.attempts = 8 ∧ (r.expired = true ∨ t.expiryFollows r.content = true)) ∧
        r.content.suits t.station.state) : SlotsOk t where
  reportAttempts := fun r hx => (hr r hx).1
  noticeAttempts := hn ▸ h.noticeAttempts
  oneMoment := hd
  reportKind := fun r hx => (hr r hx).2
  noticeKind := by rw [hs, hn]; exact h.noticeKind
  quieting := by rw [hs]; unfold Transmitter.quietPending; rw [hn, hf]; exact h.quieting

/-- The report slot emptied. -/
theorem SlotsOk.without_report {s t : State} (h : SlotsOk s) (hn : t.transmitter.notice = s.transmitter.notice)
    (hf : t.transmitter.followOn = s.transmitter.followOn) (hs : t.station.state = s.station.state)
    (hd : t.timebase.due.windowBoundary = true → t.timebase.due.graceExpiry = false)
    (hr : t.transmitter.report = none) : SlotsOk t := h.of_report hn hf hs hd (by simp [hr])

/-- The receiver through a step of the transmitter in which no attempt runs or starts. -/
theorem ReceiverOk.of_rest {s t : State} (h : ReceiverOk s) (hr : t.receiver = s.receiver)
    (hon : t.receiverOn = s.receiverOn) (hs : s.transmitter.state ≠ .sending) (ht : t.transmitter.state ≠ .sending)
    (hb : t.transmitter.state = .backoff → s.receiverOn = true) : ReceiverOk t where
  off := by rw [hr, hon, h.off]
  rest := hr ▸ h.rest
  gap := hr ▸ h.gap
  held := by rw [hr, h.held]; simp [hs, ht]
  noFrame := hr ▸ h.noFrame
  frame := hr ▸ h.frame
  attempt := fun ha => hon.trans <| ha.elim hb fun hsend => absurd hsend ht

theorem ReceiverOk.on_of_gap {s : State} (h : ReceiverOk s) (hg : s.receiver.gapTimer = 4) : s.receiverOn = true := by
  by_contra hoff
  have := (h.rest (h.off.mpr (by simpa using hoff))).1
  omega

theorem State.chooseCurrent_backoff {s : State} (h : s.chooseCurrent.transmitter.state = .backoff) :
    s.transmitter.state = .backoff ∨ s.receiver.gapTimer = 4 := by
  unfold State.chooseCurrent at h
  repeat' split at h
  · exact .inl h
  · cases h
  · exact .inl h
  · rw [State.enterWaitIdle_state] at h
    split at h
    · next hg => exact .inr hg
    · cases h

/-- R133: the choice of the current frame, from a resting transmitter. -/
theorem LineOk.chosen {s : State} (hr : ReceiverOk s) (ht : Choosable s.transmitter) (hs : SlotsOk s) :
    LineOk s.chooseCurrent where
  receiver := by
    have hon : s.chooseCurrent.receiverOn = s.receiverOn := State.receiverOn_congr (by simp) (by simp) (by simp)
    refine hr.of_rest (by simp) hon ht.rests (s.chooseCurrent_current ht.rests ht.idle).2.2 fun hb => ?_
    exact (State.chooseCurrent_backoff hb).elim (fun h => hr.attempt (.inl h)) hr.on_of_gap
  transmitter := ht.chooseCurrent
  slots := hs.chooseCurrent

/-! ### Frames entering the slots (R132 to R134) -/

section
variable {s : State}

/-- What no command but those of line, supply and station changes. -/
theorem LineOk.of_other {t : State} (h : LineOk s) (hr : t.receiver = s.receiver) (ht : t.transmitter = s.transmitter)
    (hs : t.station.state = s.station.state) (hmode : t.station.supplyMode = s.station.supplyMode)
    (m : SameMoment s t) : LineOk t where
  receiver := by
    have hon : t.receiverOn = s.receiverOn := State.receiverOn_congr hmode (by rw [hs]) (by rw [ht])
    exact h.receiver.of_gates (.of_eq (by rw [hr])) (hr ▸ h.receiver.frameOk) hon (by rw [ht]) (by rw [ht]) fun hb =>
      h.receiver.attempt (.inl (ht ▸ hb))
  transmitter := ht ▸ h.transmitter
  slots := h.slots.of_same (.of_eq (by rw [ht]) (by rw [ht]) (by rw [ht])) m hs

/-- R132, R133: a frame queued in the report slot, whatever stood there. -/
theorem LineOk.queueReport (hr : ReceiverOk s) (ht : TransmitterOk s.transmitter)
    (hs : SlotsOk { s with transmitter := { s.transmitter with report := none } }) {content : ReportContent}
    (hk : content.suits s.station.state) : LineOk (s.queueReport content) := by
  have hslots {t : Transmitter} (hn : t.notice = s.transmitter.notice) (hf : t.followOn = s.transmitter.followOn)
      (hrep : t.report = some ⟨content, 0, s.seedNow, false, false⟩) : SlotsOk { s with transmitter := t } := by
    refine SlotsOk.of_report hs hn hf rfl hs.oneMoment fun r hx => ?_
    rw [hrep, Option.some.injEq] at hx
    subst hx
    exact ⟨.inl (by decide : (0 : Nat) < 8), hk⟩
  unfold State.queueReport
  by_cases hsend : s.transmitter.state = .sending
  · rw [State.chooseCurrent_sending _ (by simpa using hsend)]
    obtain ⟨slot, hc, -, hn, hf, -⟩ := ht.sending hsend
    have hkept : s.transmitter.notCurrent .report = s.transmitter := by simp [Transmitter.notCurrent, hsend]
    refine ⟨?_, ?_, hslots (by simp) (by simp) rfl⟩
    · exact hr.of_gates (.of_eq rfl) hr.frameOk (State.receiverOn_congr rfl .rfl (by simp)) (by simp) (by simp)
        fun hb => by simp [hsend] at hb
    · rw [hkept]
      exact transmitterOk_of_sending (slot := slot) hsend hc (fun _ => rfl) hn hf (fun r hx he => by
        simp only [Option.some.injEq] at hx
        subst hx
        cases he) ⟨ht.timers.backoff, ht.timers.stuck⟩
  · have hchoose := (ht.choosable hsend).notCurrent .report
    refine LineOk.chosen (hr.of_rest rfl (State.receiverOn_congr rfl .rfl (by simp)) hsend (by simpa using hsend)
      fun hb => hr.attempt (.inl (by simpa using hb))) ?_ (hslots (by simp) (by simp) rfl)
    exact ⟨hchoose.rests, hchoose.idle, hchoose.followOn, by simp, ⟨hchoose.timers.backoff, hchoose.timers.stuck⟩⟩

theorem quietPending_of_notice {t : Transmitter} {n : NoticeSlot} (hn : t.notice = some n)
    (ha : n.notice.announced = .quiet) (hf : t.followOn = none) : t.quietPending := .inr ⟨hf, n, hn, ha⟩

section
variable (h : LineOk s) {x : StationState} (hs : s.station.state ≠ .unconfigured) (hx : x ≠ .unconfigured)
  {a : NoticeState} (hq : x = .quieting → a = .quiet)
include h hs hx

theorem LineOk.enter_receiver : ReceiverOk (s.enter x) := by
  have hon : (s.enter x).receiverOn = s.receiverOn := State.receiverOn_congr rfl (iff_of_false hx hs) rfl
  exact h.receiver.of_gates (.of_eq rfl) h.receiver.frameOk hon .rfl rfl fun hb => h.receiver.attempt (.inl hb)

include hq

/-- R146, R170: without mains supply a notice is dropped, and a QUIET notice dropped leaves the station QUIET. -/
theorem LineOk.noticeRefused :
    LineOk (State.noticeEnded a
      { s.enter x with transmitter := { (s.enter x).transmitter with lastFailure := .abortedBySupply } }) := by
  have hr := h.enter_receiver hs hx
  generalize hu : State.noticeEnded a
      { s.enter x with transmitter := { (s.enter x).transmitter with lastFailure := .abortedBySupply } } = u
  have hstate : u.station.state ≠ .quieting := by
    subst hu
    unfold State.noticeEnded
    split
    · rw [State.endOfQuietNotice_station]
      dsimp only
      split
      · simp
      · next hne => exact hne
    · next hne => exact mt hq hne
  have hcommissioned : u.station.state ≠ .unconfigured := by
    subst hu
    simpa [State.enter] using hx
  subst hu
  refine ⟨?_, ?_, ?_⟩
  · exact hr.of_gates (.of_eq (by simp)) (by simpa using hr.frameOk) (State.receiverOn_congr (by simp) (by simp) (by simp))
      (by simp) (by simp) fun hb => hr.attempt (.inl (by simpa using hb))
  · exact h.transmitter.of_same (.of_eq (by simp) (by simp) (by simp)) (by simp) (by simp) (by simp) (by simp)
      ⟨by simpa using h.transmitter.timers.backoff, by simpa using h.transmitter.timers.stuck⟩
  · exact h.slots.of_notice (by simp) (.of_eq (by simp) (by simp)) (iff_of_false hcommissioned hs)
      (by simpa using h.slots.noticeAttempts) (fun hu => absurd hu hcommissioned) fun hu => absurd hu hstate

/-- R134: a notice in transmission records the state announced as its follow-on. -/
theorem LineOk.followOnRecorded (hsending : s.transmitter.isSending .notice = true) :
    LineOk { s.enter x with transmitter := { (s.enter x).transmitter with followOn := some a } } := by
  have hr := h.enter_receiver hs hx
  have hsend : s.transmitter.state = .sending ∧ s.transmitter.current = some .notice := by
    simpa [Transmitter.isSending] using hsending
  obtain ⟨slot, hc, hrep, hn, -, he⟩ := h.transmitter.sending hsend.1
  have hslot : slot = .notice := by simpa [hc] using hsend.2
  refine ⟨?_, ?_, ?_⟩
  · exact hr.of_gates (.of_eq rfl) hr.frameOk rfl .rfl rfl fun hb => hr.attempt (.inl hb)
  · exact transmitterOk_of_sending hsend.1 hc hrep hn (fun _ => hslot) he
      ⟨h.transmitter.timers.backoff, h.transmitter.timers.stuck⟩
  · exact h.slots.of_notice rfl ⟨rfl, rfl, rfl⟩ (iff_of_false hx hs) h.slots.noticeAttempts (fun hu => absurd hu hx)
      fun hu => .inl (by rw [hq hu])

/-- R134: the notice enters its slot in place of what waits there. -/
theorem LineOk.noticeQueued (hwaits : ¬s.transmitter.isSending .notice = true) :
    LineOk
      { s.enter x with
        transmitter := { (s.enter x).transmitter.notCurrent .notice with
          notice := some ((s.enter x).newNotice a) } }.chooseCurrent := by
  have hr := h.enter_receiver hs hx
  have hfollow : s.transmitter.followOn = none := by
    by_contra hne
    exact hwaits (h.transmitter.followOn hne)
  have hslots {t : Transmitter} (hrep : t.report = s.transmitter.report)
      (hn : t.notice = some ((s.enter x).newNotice a)) (hf : t.followOn = none) :
      SlotsOk { s.enter x with transmitter := t } := by
    refine h.slots.of_notice hrep ⟨rfl, rfl, rfl⟩ (iff_of_false hx hs) (fun n hx' => ?_) (fun hu => absurd hu hx)
      fun hu => quietPending_of_notice hn (hq hu) hf
    have hn' := hn.symm.trans hx'
    rw [Option.some.injEq] at hn'
    subst hn'
    exact (by decide : (0 : Nat) < 8)
  by_cases hsend : s.transmitter.state = .sending
  · rw [State.chooseCurrent_sending _ (by simpa using hsend)]
    obtain ⟨slot, hc, hrep, -, -, he⟩ := h.transmitter.sending hsend
    have hkept : (s.enter x).transmitter.notCurrent .notice = s.transmitter := by simp [Transmitter.notCurrent, hsend]
    refine ⟨?_, ?_, hslots (by simp) rfl (by simpa using hfollow)⟩
    · exact hr.of_gates (.of_eq rfl) hr.frameOk (State.receiverOn_congr rfl .rfl (by simp)) (by simp) (by simp)
        fun hb => by simp [hsend] at hb
    · rw [hkept]
      exact transmitterOk_of_sending (slot := slot) hsend hc hrep (fun _ => rfl) (fun hne => absurd hfollow hne) he
        ⟨h.transmitter.timers.backoff, h.transmitter.timers.stuck⟩
  · have hchoose := (h.transmitter.choosable hsend).notCurrent .notice
    refine LineOk.chosen (hr.of_rest rfl (State.receiverOn_congr rfl .rfl (by simp)) hsend (by simpa using hsend)
      fun hb => hr.attempt (.inl (by simpa using hb))) ?_ (hslots (by simp) rfl (by simpa using hfollow))
    exact ⟨hchoose.rests, hchoose.idle, hchoose.followOn, hchoose.expired,
      ⟨hchoose.timers.backoff, hchoose.timers.stuck⟩⟩

/-- R134, R146: a notice requested as the station enters a state. -/
theorem LineOk.enter_requestNotice : LineOk ((s.enter x).requestNotice a) := by
  unfold State.requestNotice
  repeat' split
  · exact h.noticeRefused hs hx hq
  · next hsending => exact h.followOnRecorded hs hx hq hsending
  · next hwaits => exact h.noticeQueued hs hx hq hwaits

end

/-! ### Reception and the character time (R112, R116, R138) -/

theorem LineOk.receiverOn_of_attempt (h : LineOk s)
    (hs : s.transmitter.state = .backoff ∨ s.transmitter.state = .sending) : s.receiverOn = true :=
  h.receiver.attempt hs

theorem LineOk.judgeWaiting (h : LineOk s) : LineOk s.judgeWaiting where
  receiver := h.receiver.of_gates s.judgeWaiting_gates (FrameOk.judgeWaiting h.receiver.frameOk).1
    (State.receiverOn_congr (by simp) (by simp) (by simp)) (by simp) (by simp) fun hb =>
      h.receiver.attempt (.inl (by simpa using hb))
  transmitter := by simpa using h.transmitter
  slots := h.slots.of_same (.of_eq (by simp) (by simp) (by simp)) s.judgeWaiting_moment (by simp)

/-- R137, R138, R143: the transmitter passing between WAIT_IDLE and BACKOFF. -/
theorem TransmitterOk.of_wait {t u : Transmitter} (h : TransmitterOk t) (hr : u.report = t.report)
    (hn : u.notice = t.notice) (hf : u.followOn = t.followOn) (hc : u.current = t.current)
    (ht : t.state = .waitIdle ∨ t.state = .backoff) (hu : u.state = .waitIdle ∨ u.state = .backoff) (hx : TimersOk u) :
    TransmitterOk u := by
  have hstate {v : Transmitter} (hv : v.state = .waitIdle ∨ v.state = .backoff) : v.state ≠ .sending ∧ v.state ≠ .idle := by
    rcases hv with hv | hv <;> simp [hv]
  exact h.of_same (.of_eq hr hn hf) (by rw [hr]) hc (iff_of_false (hstate hu).1 (hstate ht).1)
    (iff_of_false (hstate hu).2 (hstate ht).2) hx

theorem FrameOk.with_gap {r : Receiver} (h : FrameOk r) {gap : Nat} {c b : Bool} (hg : gap ≤ 4) (hp : r.parser ≠ .off) :
    FrameOk { r with gapTimer := gap, charInProgress := c, lrxAtSpace := b } :=
  ⟨fun ho => absurd ho hp, hg, h.noFrame, h.frame⟩

theorem ReceiverOk.parser_on (h : ReceiverOk s) (hon : s.receiverOn = true) : s.receiver.parser ≠ .off := fun ho => by
  simp [h.off.mp ho] at hon

theorem LineOk.startBit (h : LineOk s) (hon : s.receiverOn = true) : LineOk s.startBit := by
  have hparser := h.receiver.parser_on hon
  by_cases hb : s.transmitter.state = .backoff
  · have ht : s.startBit.transmitter = { s.transmitter with state := .waitIdle, backoffSlots := 0 } := by
      simp [State.startBit, hb]
    refine ⟨?_, ?_, ?_⟩
    · exact h.receiver.of_gates (.of_eq rfl) (h.receiver.frameOk.with_gap (Nat.zero_le 4) hparser)
        (State.receiverOn_congr rfl .rfl (by simp)) (by simp [ht, hb]) (by simp) fun hs => by simp [ht] at hs
    · rw [ht]
      exact h.transmitter.of_wait rfl rfl rfl rfl (.inr hb) (.inl rfl)
        ⟨⟨Nat.zero_le 127, fun _ => rfl⟩, h.transmitter.timers.stuck.1, fun hne => absurd rfl hne⟩
    · exact h.slots.of_same (.of_eq (by rw [ht]) (by rw [ht]) (by rw [ht])) (.of_eq rfl rfl) rfl
  · have ht : s.startBit.transmitter = s.transmitter := by simp [State.startBit, hb]
    refine ⟨?_, ht ▸ h.transmitter, ?_⟩
    · exact h.receiver.of_gates (.of_eq rfl) (h.receiver.frameOk.with_gap (Nat.zero_le 4) hparser)
        (State.receiverOn_congr rfl .rfl (by simp)) (by rw [ht]) (by simp) fun hs => absurd (ht ▸ hs) hb
    · exact h.slots.of_same (.of_eq (by rw [ht]) (by rw [ht]) (by rw [ht])) (.of_eq rfl rfl) rfl

theorem LineOk.impliedStartBit (h : LineOk s) (hon : s.receiverOn = true) : LineOk s.impliedStartBit := by
  unfold State.impliedStartBit
  split
  exacts [h, h.startBit hon]

theorem State.impliedStartBit_receiver (s : State) :
    s.impliedStartBit.receiver.parser = s.receiver.parser ∧ s.impliedStartBit.receiver.frame = s.receiver.frame := by
  unfold State.impliedStartBit
  split
  exacts [⟨rfl, rfl⟩, ⟨rfl, rfl⟩]

@[simp] theorem State.judgeWaiting_receiverOn (s : State) : s.judgeWaiting.receiverOn = s.receiverOn :=
  State.receiverOn_congr (by simp) (by simp) (by simp)

@[simp] theorem State.impliedStartBit_receiverOn (s : State) : s.impliedStartBit.receiverOn = s.receiverOn := by
  unfold State.impliedStartBit
  split
  exacts [rfl, State.receiverOn_congr rfl .rfl (by simp)]

theorem LineOk.character (h : LineOk s) (hon : s.receiverOn = true) (octet : Octet) (stopBit : Bool) :
    LineOk (s.character octet stopBit) := by
  have hw := (FrameOk.judgeWaiting h.receiver.frameOk).2
  have hstarted := h.judgeWaiting.impliedStartBit (by simpa using hon)
  have hparser := hstarted.receiver.parser_on (by simpa using hon)
  obtain ⟨hp, hf⟩ := s.judgeWaiting.impliedStartBit_receiver
  generalize hu : s.judgeWaiting.impliedStartBit = u at hstarted hparser hp hf
  have hkept : (s.character octet stopBit).transmitter = u.transmitter.readOctet octet stopBit := by
    rw [← hu]
    rfl
  have hon' : (s.character octet stopBit).receiverOn = u.receiverOn := by
    rw [← hu]
    exact State.receiverOn_congr (by simp) (by simp) (by simp [State.character])
  refine ⟨?_, ?_, ?_⟩
  · refine hstarted.receiver.of_gates ?_ ?_ hon' (by simp [hkept]) (by simp [hkept]) fun hb =>
      hstarted.receiver.attempt (.inl (by simpa [hkept] using hb))
    all_goals
      unfold State.character
      rw [hu]
      dsimp only
    · refine SameGates.trans ?_ (Receiver.takeOctet_gates _ _ _ _)
      exact .of_eq rfl
    · refine FrameOk.takeOctet (hstarted.receiver.frameOk.with_gap (Nat.zero_le 4) hparser) (fun hi => ?_) _ _ _
      exact (congrArg frameComplete hf).trans (hw (hp.symm.trans hi))
  · rw [hkept]
    exact hstarted.transmitter.of_same (.of_eq (by simp) (by simp) (by simp)) (by simp) (by simp) (by simp) (by simp)
      ⟨by simpa using hstarted.transmitter.timers.backoff, by simpa using hstarted.transmitter.timers.stuck⟩
  · refine hstarted.slots.of_same ?_ ?_ ?_
    · exact .of_eq (by simp [hkept]) (by simp [hkept]) (by simp [hkept])
    · rw [← hu]
      exact .of_eq (by simp) (by simp [State.character])
    · rw [← hu]
      simp

theorem State.backoffAddress_congr {t : State} (ht : t.transmitter = s.transmitter) (hi : t.items = s.items) :
    t.backoffAddress = s.backoffAddress := by
  unfold State.backoffAddress
  rw [ht, hi]

/-- R137: an idle gap starts the backoff of a waiting frame. -/
theorem State.idleGap_of_waitIdle (hw : s.transmitter.state = .waitIdle) :
    s.idleGap.transmitter =
      { s.transmitter with
        state := .backoff
        backoffSlots := backoffOf s.backoffAddress s.transmitter.currentAttempts s.transmitter.currentSeed
        stuckTimer := 0 } := by
  unfold State.idleGap
  dsimp only
  rw [if_pos (by simpa using hw), State.enterBackoff]
  simp only [State.seeLrx_transmitter, State.judgeWaiting_frame]
  rw [State.backoffAddress_congr (s := s) (by simp) (by simp)]

theorem LineOk.idleGap (h : LineOk s) (hg : s.gapCanEnd = true) : LineOk s.idleGap := by
  have hon : s.receiverOn = true := by
    simp only [State.gapCanEnd, Bool.and_eq_true] at hg
    exact hg.1.1
  have hjudged := h.judgeWaiting
  have hparser := hjudged.receiver.parser_on (by simpa using hon)
  have hon' : s.idleGap.receiverOn = s.judgeWaiting.receiverOn :=
    State.receiverOn_congr (by simp) (by simp) (by simp)
  have hrested : s.idleGap.receiver = { (s.judgeWaiting.seeLrx false).receiver.takeGap with gapTimer := 4 } := by
    unfold State.idleGap
    dsimp only
    split
    all_goals rfl
  have hgates : SameGates s.judgeWaiting.receiver s.idleGap.receiver := by
    rw [hrested]
    have hgap := Receiver.takeGap_gates (s.judgeWaiting.seeLrx false).receiver
    exact ⟨hgap.off, hgap.held⟩
  have hframe : FrameOk s.idleGap.receiver := by
    rw [hrested]
    exact FrameOk.takeGap (hjudged.receiver.frameOk.with_gap hjudged.receiver.gap hparser) 4 (le_refl 4) hparser
  by_cases hwait : s.transmitter.state = .waitIdle
  · have ht := State.idleGap_of_waitIdle hwait
    refine ⟨?_, ?_, ?_⟩
    · exact hjudged.receiver.of_gates hgates hframe hon' (by simp [ht, hwait]) (by simp) fun _ => by simpa using hon
    · rw [ht]
      exact h.transmitter.of_wait rfl rfl rfl rfl (.inl hwait) (.inr rfl)
        ⟨⟨backoffOf_le _ _ _, fun hne => absurd rfl hne⟩, Nat.zero_le _, fun _ => rfl⟩
    · exact h.slots.of_same (.of_eq (by rw [ht]) (by rw [ht]) (by rw [ht])) s.idleGap_moment (by simp)
  · have ht : s.idleGap.transmitter = s.transmitter := by simp [State.idleGap, hwait]
    refine ⟨?_, ht ▸ h.transmitter, ?_⟩
    · exact hjudged.receiver.of_gates hgates hframe hon' (by simp [ht]) (by simp) fun _ => by simpa using hon
    · exact h.slots.of_same (.of_eq (by rw [ht]) (by rw [ht]) (by rw [ht])) s.idleGap_moment (by simp)

end

end Sys2Proof.Machine

/-! SUPPORT. The line through an attempt: its start, its collision and its success (R139 to R142). -/

namespace Sys2Proof.Machine

section
variable {s : State}

/-! ### The start of an attempt (R139) -/

@[simp] theorem ReportContent.fill_suits (c : ReportContent) (second : Nat) (x : StationState) :
    (c.fill second).suits x ↔ c.suits x := by cases c <;> rfl

@[simp] theorem State.expiryFollows_fill (s : State) (c : ReportContent) (second : Nat) :
    s.expiryFollows (c.fill second) = s.expiryFollows c := by cases c <;> rfl

/-- R139: the second-of-day filled in changes nothing else of a frame. -/
theorem Transmitter.fill_slots (t : Transmitter) (second : Nat) : SameSlots t (t.fill second) := by
  unfold Transmitter.fill
  split
  · refine ⟨fun r hr => ?_, fun n hn => ⟨n, hn, rfl, rfl⟩, rfl, rfl⟩
    simp only [Option.map_eq_some_iff] at hr
    obtain ⟨q, hq, rfl⟩ := hr
    exact ⟨q, hq, rfl, rfl, fun _ => by simp, fun _ => by simp⟩
  · refine ⟨fun r hr => ⟨r, hr, rfl, rfl, fun _ => .rfl, fun _ => rfl⟩, fun n hn => ?_, by simp, rfl⟩
    simp only [Option.map_eq_some_iff] at hn
    obtain ⟨q, hq, rfl⟩ := hn
    exact ⟨q, hq, rfl, rfl⟩
  · exact .of_eq rfl rfl rfl

theorem State.startSending_slots (s : State) : SameSlots s.transmitter s.startSending.transmitter :=
  (s.transmitter.fill_slots s.timebase.secondOfDay).trans (.of_eq rfl rfl rfl)

theorem LineOk.startSending (h : LineOk s) (hb : s.transmitter.state = .backoff) : LineOk s.startSending := by
  have hon : s.startSending.receiverOn = s.receiverOn := State.receiverOn_congr rfl .rfl (by simp)
  have hwas := h.receiver.attempt (.inl hb)
  have hparser := h.receiver.parser_on hwas
  have hunheld : s.receiver.parser ≠ .held := fun hp => by simpa [hb] using (h.receiver.held.mp hp).1
  refine ⟨?_, ?_, h.slots.of_same s.startSending_slots (.of_eq rfl rfl) rfl⟩
  · by_cases hm : s.transmitter.testMode = .off
    · have hr : s.startSending.receiver = { s.receiver with parser := .held, frame := [] } := by
        simp [State.startSending, hm]
      constructor
      case off => rw [hon, hr]; simp [hwas]
      case rest => rw [hr]; exact fun hp => (nomatch hp)
      case gap => rw [hr]; exact h.receiver.gap
      case held => rw [hr]; exact ⟨fun _ => ⟨rfl, by simpa using hm⟩, fun _ => rfl⟩
      case noFrame => rw [hr]; exact fun _ => rfl
      case frame => rw [hr]; exact fun hp => (nomatch hp)
      case attempt => exact fun _ => hon.trans hwas
    · have hr : s.startSending.receiver = s.receiver := by simp [State.startSending, hm]
      have hf := h.receiver.frameOk
      constructor
      case off => rw [hon, hr]; exact h.receiver.off
      case rest => exact hr ▸ hf.rest
      case gap => exact hr ▸ hf.gap
      case held => rw [hr]; exact ⟨fun hp => absurd hp hunheld, fun hs => absurd (by simpa using hs.2) hm⟩
      case noFrame => exact hr ▸ hf.noFrame
      case frame => exact hr ▸ hf.frame
      case attempt => exact fun _ => hon.trans hwas
  · have hc : s.transmitter.current ≠ none := fun hc => by simp [h.transmitter.idle.mpr hc] at hb
    obtain ⟨slot, hslot⟩ := Option.ne_none_iff_exists'.mp hc
    have hrest := h.transmitter.choosable (by simp [hb])
    refine transmitterOk_of_sending (slot := slot) rfl (by simpa [State.startSending] using hslot) ?_ ?_ ?_ ?_ ?_
    · rintro rfl
      simpa [State.startSending] using h.transmitter.reportCurrent hslot
    · rintro rfl
      simpa [State.startSending] using h.transmitter.noticeCurrent hslot
    · exact fun hf => absurd (by simpa [State.startSending] using hrest.followOn) hf
    · intro r hr he
      obtain ⟨q, hq, -, hmark, -⟩ := s.startSending_slots.report r hr
      simp [← hmark, hrest.expired q hq] at he
    · exact ⟨⟨Nat.zero_le _, fun _ => rfl⟩, by simpa [State.startSending] using h.transmitter.timers.stuck.1,
        fun _ => by simpa [State.startSending] using h.transmitter.timers.stuck.2 (by simp [hb])⟩

/-! ### The read-back (R140) -/

theorem State.character_transmitter (hs : s.transmitter.state = .sending) (o : Octet) (b : Bool) :
    (s.character o b).transmitter = s.transmitter.readOctet o b := by
  have hstart : s.judgeWaiting.impliedStartBit.transmitter = s.transmitter := by
    unfold State.impliedStartBit State.startBit
    split <;> simp [hs]
  simp [State.character, hstart]

/-- R140: what an attempt read back leaves as it was. -/
structure Attempting (s t : State) : Prop where
  line : LineOk t
  sending : t.transmitter.state = .sending
  current : t.transmitter.current = s.transmitter.current

theorem LineOk.readCharacter (h : LineOk s) (hs : s.transmitter.state = .sending) (o : Octet) (b : Bool) :
    Attempting s (s.character o b) :=
  ⟨h.character (h.receiver.attempt (.inr hs)) o b, by simpa [State.character_transmitter hs] using hs,
    by simp [State.character_transmitter hs]⟩

theorem LineOk.readColliding (h : LineOk s) (hs : s.transmitter.state = .sending) : Attempting s s.readColliding := by
  rcases s.readColliding_cases with he | ⟨_, _, o, b, _, _, _, he⟩
  · rw [he]
    exact ⟨h, hs, rfl⟩
  · rw [he]
    obtain ⟨hline, hsend, hc⟩ := h.readCharacter hs o b
    exact ⟨hline.of_other rfl rfl rfl rfl ⟨rfl, rfl, rfl⟩, hsend, hc⟩

theorem LineOk.readBackRest (h : LineOk s) (hs : s.transmitter.state = .sending) : Attempting s s.readBackRest := by
  unfold State.readBackRest
  split
  · exact ⟨h, hs, rfl⟩
  · generalize s.transmitter.octetsLeft = l
    suffices hall : ∀ (l : List Octet) (t : State), Attempting s t →
        Attempting s (l.foldl (fun (t : State) o => t.character o true) t) from hall l s ⟨h, hs, rfl⟩
    intro l
    induction l with
    | nil => exact fun _ ht => ht
    | cons o l ih =>
      intro t ht
      obtain ⟨hline, hsend, hc⟩ := ht.line.readCharacter ht.sending o true
      exact ih _ ⟨hline, hsend, hc.trans ht.current⟩

theorem LineOk.seeLrx (h : LineOk s) (space : Bool) : LineOk (s.seeLrx space) where
  receiver := h.receiver.of_gates (.of_eq rfl) ⟨h.receiver.rest, h.receiver.gap, h.receiver.noFrame, h.receiver.frame⟩
    rfl .rfl rfl fun hb => h.receiver.attempt (.inl hb)
  transmitter := h.transmitter
  slots := h.slots.of_same (.of_eq rfl rfl rfl) ⟨rfl, rfl, rfl⟩ rfl

/-! ### The end of an attempt (R114, R141, R142) -/

/-- R114: an attempt at a slot's frame has ended, and what became of the frame is not yet settled. -/
structure AttemptOver (slot : Slot) (u : State) : Prop where
  receiver : ReceiverOk u
  state : u.transmitter.state = .idle
  current : u.transmitter.current = none
  report : slot = .report → u.transmitter.report.isSome = true
  notice : slot = .notice → u.transmitter.notice.isSome = true
  followOn : u.transmitter.followOn ≠ none → slot = .notice
  expired : ∀ r, u.transmitter.report = some r → r.expired = true → slot = .report
  timers : TimersOk u.transmitter
  slots : SlotsOk u

theorem Attempting.attemptOver {t : State} (h : Attempting s t) {slot : Slot} (hc : s.transmitter.current = some slot)
    (sent collisions : Nat) :
    AttemptOver slot
      { t.endAttempt with
        transmitter := { t.endAttempt.transmitter with framesSent := sent, collisions := collisions } } := by
  obtain ⟨hline, hs, hcurrent⟩ := h
  obtain ⟨slot', hc', hr, hn, hf, he⟩ := hline.transmitter.sending hs
  obtain rfl : slot' = slot := by simpa [hc, hc'] using hcurrent
  have hparser : t.endAttempt.receiver.parser = .off ↔ t.receiver.parser = .off := by
    by_cases hp : t.receiver.parser = .held <;> simp [State.endAttempt, hp]
  have hin : t.endAttempt.receiver.parser = .inFrame ↔ t.receiver.parser = .inFrame := by
    by_cases hp : t.receiver.parser = .held <;> simp [State.endAttempt, hp]
  refine ⟨?_, rfl, rfl, hr, hn, hf, he, ⟨?_, ?_⟩, ?_⟩
  · constructor
    case off => exact hparser.trans hline.receiver.off
    case rest => exact fun _ => ⟨rfl, rfl⟩
    case gap => exact Nat.zero_le 4
    case held => by_cases hp : t.receiver.parser = .held <;> simp [State.endAttempt, hp]
    case noFrame => exact fun hp => hline.receiver.noFrame (mt hin.mpr hp)
    case frame => exact fun hp => hline.receiver.frame (hin.mp hp)
    case attempt => exact fun ha => by simp at ha
  · exact ⟨hline.transmitter.timers.backoff.1, fun _ => hline.transmitter.timers.backoff.2 (by simp [hs])⟩
  · exact ⟨hline.transmitter.timers.stuck.1, fun _ => hline.transmitter.timers.stuck.2 (by simp [hs])⟩
  · exact hline.slots.of_same (.of_eq rfl rfl rfl) ⟨rfl, rfl, rfl⟩ rfl

/-- The frame of an ended attempt is settled: no mark of the attempt stands, and the slots are in order. -/
structure FrameSettled (v : State) : Prop where
  followOn : v.transmitter.followOn = none
  expired : ∀ r, v.transmitter.report = some r → r.expired = false
  slots : SlotsOk v

/-- What settling the frame of an ended attempt leaves of the transmitter. -/
structure SameRest (u v : State) : Prop where
  state : v.transmitter.state = u.transmitter.state
  current : v.transmitter.current = u.transmitter.current
  backoffSlots : v.transmitter.backoffSlots = u.transmitter.backoffSlots
  stuckTimer : v.transmitter.stuckTimer = u.transmitter.stuckTimer

theorem State.frameCollision_rest (x : Option Slot) : SameRest s (s.frameCollision x) := by
  unfold State.frameCollision State.reportCollision State.noticeCollision State.expiredCollision State.giveUp
    State.reportGivenUp
  repeat' split
  all_goals exact ⟨by simp, by simp, by simp, by simp⟩

theorem State.frameSent_rest (x : Option Slot) : SameRest s (s.frameSent x) := by
  unfold State.frameSent State.reportSent State.noticeSent
  repeat' split
  all_goals exact ⟨by simp, by simp, by simp, by simp⟩

section
variable {slot : Slot} {u : State}

/-- R133: after an attempt the current frame is chosen again. -/
theorem AttemptOver.chosen (h : AttemptOver slot u) {v : State} (hv : FrameSettled v) (k : SameRest u v)
    (hr : v.receiver = u.receiver) (hon : v.receiverOn = u.receiverOn) : LineOk v.chooseCurrent := by
  have hstate : v.transmitter.state = .idle := k.state.trans h.state
  refine LineOk.chosen ?_ ?_ hv.slots
  · exact h.receiver.of_rest hr hon (by simp [h.state]) (by simp [hstate]) fun hb => by simp [hstate] at hb
  · refine ⟨by simp [hstate], fun _ => k.current.trans h.current, hv.followOn, hv.expired, ?_, ?_⟩
    · rw [k.backoffSlots, k.state]
      exact h.timers.backoff
    · rw [k.stuckTimer, k.state]
      exact h.timers.stuck

/-- R133: one slot's attempt leaves no mark on the other's frame. -/
theorem AttemptOver.unmarked (h : AttemptOver .notice u) (r : ReportSlot) (hr : u.transmitter.report = some r) :
    r.expired = false := by
  by_contra he
  have := h.expired r hr (by simpa using he)
  cases this

theorem AttemptOver.noFollowOn (h : AttemptOver .report u) : u.transmitter.followOn = none := by
  by_contra hf
  have := h.followOn hf
  cases this

theorem AttemptOver.reportCollision (h : AttemptOver .report u) {r : ReportSlot} (hr : u.transmitter.report = some r) :
    FrameSettled (u.reportCollision r) := by
  have hfollow := h.noFollowOn
  unfold State.reportCollision
  split
  · refine ⟨by simpa [State.expiredCollision] using hfollow, by simp [State.expiredCollision], ?_⟩
    exact h.slots.without_report (by simp [State.expiredCollision]) (by simp [State.expiredCollision])
      (by simp) (by simpa using h.slots.oneMoment) (by simp [State.expiredCollision])
  next hexpired =>
  split
  · next hstays =>
    refine ⟨hfollow, fun q hq => ?_, h.slots.of_report rfl rfl rfl h.slots.oneMoment fun q hq => ?_⟩
    all_goals
      simp only [Option.some.injEq] at hq
      subst hq
    · simpa using hexpired
    · refine ⟨?_, h.slots.reportKind r hr⟩
      simp only [Bool.or_eq_true, decide_eq_true_eq] at hstays
      rcases hstays with hfew | hmoment
      · exact .inl (by dsimp only; omega)
      · by_cases hfew : r.attempts + 1 < 8
        · exact .inl (by dsimp only; omega)
        · exact .inr ⟨by dsimp only; omega, .inr hmoment⟩
  · refine ⟨by simpa [State.giveUp] using hfollow, by simp [State.giveUp], ?_⟩
    exact h.slots.without_report (by simp [State.giveUp]) (by simp [State.giveUp]) (by simp)
      (by simpa using h.slots.oneMoment) (by simp [State.giveUp])

/-- R170: the end of a notice leaves a station QUIETING only where the notice did not announce QUIET. -/
theorem State.noticeEnded_quieting {a : NoticeState} (hq : (u.noticeEnded a).station.state = .quieting) :
    u.station.state = .quieting ∧ a ≠ .quiet := by
  unfold State.noticeEnded at hq
  split at hq
  · rw [State.endOfQuietNotice_station] at hq
    dsimp only at hq
    split at hq
    · cases hq
    · next hne => exact absurd hq hne
  · next hne => exact ⟨hq, hne⟩

/-- R134, R147: in QUIETING a notice in transmission that does not announce QUIET has QUIET to follow on. -/
theorem Transmitter.quietPending.followOn {t : Transmitter} (h : t.quietPending) {n : NoticeSlot} (hn : t.notice = some n)
    (ha : n.notice.announced ≠ .quiet) : t.followOn = some .quiet := by
  rcases h with hf | ⟨-, m, hm, hquiet⟩
  · exact hf
  · rw [hn, Option.some.injEq] at hm
    exact absurd (hm ▸ hquiet) ha

theorem AttemptOver.commissioned (h : AttemptOver .notice u) : u.station.state ≠ .unconfigured := fun hu => by
  simpa [h.slots.noticeKind hu] using h.notice rfl

theorem AttemptOver.noticeCollision (h : AttemptOver .notice u) {n : NoticeSlot}
    (hn : u.transmitter.notice = some n) : FrameSettled (u.noticeCollision n) := by
  have hmarks := h.unmarked
  unfold State.noticeCollision
  split
  · next a hf =>
    refine ⟨rfl, hmarks, h.slots.of_notice rfl ⟨rfl, rfl, rfl⟩ .rfl (fun m hm => ?_)
      (fun hu => absurd hu h.commissioned) fun hq => ?_⟩
    · simp only [Option.some.injEq] at hm
      subst hm
      exact (by decide : (0 : Nat) < 8)
    · refine quietPending_of_notice rfl ?_ rfl
      rcases h.slots.quieting hq with hquiet | ⟨hnone, -⟩
      · exact Option.some.inj (hf.symm.trans hquiet)
      · simp [hf] at hnone
  next hf =>
  split
  · next hfew =>
    refine ⟨hf, hmarks, h.slots.of_notice rfl ⟨rfl, rfl, rfl⟩ .rfl (fun m hm => ?_)
      (fun hu => absurd hu h.commissioned) fun hq => ?_⟩
    · simp only [Option.some.injEq] at hm
      subst hm
      exact hfew
    · refine quietPending_of_notice rfl ?_ hf
      by_contra ha
      simpa [hf] using (h.slots.quieting hq).followOn hn ha
  · refine ⟨by simpa [State.giveUp] using hf, by simpa [State.giveUp] using hmarks, ?_⟩
    refine h.slots.of_notice (by simp [State.giveUp]) (.of_eq (by simp) (by simp)) (by simp) (by simp [State.giveUp])
      (by simp [State.giveUp]) fun hq => ?_
    obtain ⟨hquieting, ha⟩ := State.noticeEnded_quieting (by simpa using hq)
    simpa [hf] using (h.slots.quieting hquieting).followOn hn ha

theorem AttemptOver.frameCollision (h : AttemptOver slot u) : FrameSettled (u.frameCollision (some slot)) := by
  cases slot
  case report =>
    obtain ⟨r, hr⟩ := Option.isSome_iff_exists.mp (h.report rfl)
    simpa [State.frameCollision, hr] using h.reportCollision hr
  case notice =>
    obtain ⟨n, hn⟩ := Option.isSome_iff_exists.mp (h.notice rfl)
    simpa [State.frameCollision, hn] using h.noticeCollision hn

theorem AttemptOver.reportSent (h : AttemptOver .report u) (r : ReportSlot) : FrameSettled (u.reportSent r) := by
  have ht : (u.reportSent r).transmitter = { u.transmitter with report := none } := by
    unfold State.reportSent State.settleReport
    dsimp only
    repeat' split
    all_goals rfl
  refine ⟨by simp [ht, h.noFollowOn], by simp [ht], ?_⟩
  exact h.slots.without_report (by simp [ht]) (by simp [ht]) (by simp) (by simpa using h.slots.oneMoment) (by simp [ht])

theorem AttemptOver.noticeSent (h : AttemptOver .notice u) {n : NoticeSlot} (hn : u.transmitter.notice = some n) :
    FrameSettled (u.noticeSent n) := by
  have ht : (u.noticeSent n).transmitter =
      { u.transmitter with notice := u.transmitter.followOn.map fun a => u.newNotice a, followOn := none } := by
    simp [State.noticeSent]
  refine ⟨by rw [ht], by rw [ht]; exact h.unmarked, ?_⟩
  refine h.slots.of_notice (by rw [ht]) (.of_eq (by simp) (by simp)) (by simp [State.noticeSent]) (fun m hm => ?_)
    (fun hu => absurd (by simpa [State.noticeSent] using hu) h.commissioned) fun hq => ?_
  · rw [ht] at hm
    simp only [Option.map_eq_some_iff] at hm
    obtain ⟨a, -, rfl⟩ := hm
    exact (by decide : (0 : Nat) < 8)
  · obtain ⟨hquieting, ha⟩ := State.noticeEnded_quieting hq
    have hf := (h.slots.quieting hquieting).followOn hn ha
    rw [ht]
    exact quietPending_of_notice (n := u.newNotice .quiet) (by simp [hf]) rfl rfl

theorem AttemptOver.frameSent (h : AttemptOver slot u) : FrameSettled (u.frameSent (some slot)) := by
  cases slot
  case report =>
    obtain ⟨r, hr⟩ := Option.isSome_iff_exists.mp (h.report rfl)
    simpa [State.frameSent, hr] using h.reportSent r
  case notice =>
    obtain ⟨n, hn⟩ := Option.isSome_iff_exists.mp (h.notice rfl)
    simpa [State.frameSent, hn] using h.noticeSent hn

end

theorem LineOk.collide (h : LineOk s) (hs : s.transmitter.state = .sending) : LineOk s.collide := by
  obtain ⟨slot, hc, -⟩ := h.transmitter.sending hs
  have hover := (h.readColliding hs).attemptOver hc
    (s.readColliding.endAttempt.transmitter.framesSent) (bump s.transmitter.collisions)
  unfold State.collide
  rw [hc]
  refine hover.chosen hover.frameCollision (State.frameCollision_rest _) ?_ ?_
  · simp
  · exact State.receiverOn_congr (by simp) (by simp) (by simp)

theorem LineOk.succeed (h : LineOk s) (hs : s.transmitter.state = .sending) : LineOk s.succeed := by
  obtain ⟨slot, hc, -⟩ := h.transmitter.sending hs
  obtain ⟨hline, hsend, hcurrent⟩ := h.readBackRest hs
  have hread : Attempting s (s.readBackRest.seeLrx false) := ⟨hline.seeLrx false, hsend, hcurrent⟩
  have hover := hread.attemptOver hc (bump s.transmitter.framesSent)
    ((s.readBackRest.seeLrx false).endAttempt.transmitter.collisions)
  unfold State.succeed
  rw [hc]
  refine hover.chosen hover.frameSent (State.frameSent_rest _) ?_ ?_
  · simp
  · exact State.receiverOn_congr (by simp) (by simp) (by simp)

end

end Sys2Proof.Machine

/-! SUPPORT. The line through the remaining commands: those of the Timebase, of supply and of the host, and the settling of
O59. -/

namespace Sys2Proof.Machine

/-! ### An empty queue (R45, R131, R147, R148) -/

/-- R131: an IDLE transmitter with both slots empty. -/
structure QueueEmpty (t : Transmitter) : Prop where
  state : t.state = .idle
  current : t.current = none
  report : t.report = none
  notice : t.notice = none
  followOn : t.followOn = none
  slots : t.backoffSlots = 0
  stuck : t.stuckTimer = 0

theorem QueueEmpty.ok {t : Transmitter} (h : QueueEmpty t) : TransmitterOk t where
  idle := by simp [h.state, h.current]
  choice := fun _ => by simp [h.current, Transmitter.wanted, h.report, h.notice]
  reportCurrent := by simp [h.current]
  noticeCurrent := by simp [h.current]
  followOn := by simp [h.followOn]
  expired := by simp [h.report]
  timers := ⟨by simp [h.slots], by simp [h.stuck]⟩

theorem QueueEmpty.slotsOk {s : State} (h : QueueEmpty s.transmitter) (hq : s.station.state ≠ .quieting)
    (hd : s.timebase.due.windowBoundary = true → s.timebase.due.graceExpiry = false) : SlotsOk s where
  reportAttempts := by simp [h.report]
  noticeAttempts := by simp [h.notice]
  oneMoment := hd
  reportKind := by simp [h.report]
  noticeKind := fun _ => h.notice
  quieting := fun hx => absurd hx hq

/-- R113: a receiver put on or off anew, with no attempt running. -/
theorem receiverOk_restartReceiver {s : State} (hs : s.transmitter.state = .idle ∨ s.transmitter.state = .waitIdle) :
    ReceiverOk s.restartReceiver := by
  have hon : s.restartReceiver.receiverOn = s.receiverOn := State.receiverOn_congr (by simp) (by simp) (by simp)
  apply receiverOk_of_fresh
  · rw [hon, State.restartReceiver_eq]
  all_goals simp [State.restartReceiver_eq, hs]

/-- R148: the queue once a Line Test has been dropped. -/
theorem QueueEmpty.of_dropped {s : State} (h : LineOk s) (hs : s.station.state = .unconfigured) :
    QueueEmpty s.dropLineTest.transmitter := by
  have hnotice := h.slots.noticeKind hs
  have hfollow : s.transmitter.followOn = none := by
    by_contra hne
    have hsending := h.transmitter.followOn hne
    simp only [Transmitter.isSending, Bool.and_eq_true, beq_iff_eq] at hsending
    simpa [hnotice] using h.transmitter.noticeCurrent hsending.2
  exact ⟨rfl, rfl, rfl, hnotice, hfollow, rfl, rfl⟩

/-- R113, R148: an empty queue, with the receiver put on or off anew. -/
theorem QueueEmpty.restarted {s : State} (h : QueueEmpty s.transmitter) (hq : s.station.state ≠ .quieting)
    (hd : s.timebase.due.windowBoundary = true → s.timebase.due.graceExpiry = false) : LineOk s.restartReceiver := by
  have hempty : QueueEmpty s.restartReceiver.transmitter := by
    obtain ⟨hstate, hc, hr, hn, hf, hslots, hstuck⟩ := h
    rw [State.restartReceiver_eq]
    exact ⟨hstate, hc, hr, hn, hf, hslots, by simp [hstuck]⟩
  exact ⟨receiverOk_restartReceiver (.inl h.state), hempty.ok, hempty.slotsOk (by simpa using hq) (by simpa using hd)⟩

theorem lineOk_fullReset (s : State) (r : Bool) : LineOk { s.fullReset with rstnHigh := r } := by
  have hempty : QueueEmpty { s.fullReset with rstnHigh := r }.transmitter := ⟨rfl, rfl, rfl, rfl, rfl, rfl, rfl⟩
  have hoff : { s.fullReset with rstnHigh := r }.receiverOn = false := by
    simp [State.receiverOn, State.fullReset, State.reset, Station.reset, Transmitter.reset]
  exact ⟨receiverOk_of_fresh (by rw [hoff]; rfl) rfl rfl rfl (.inl rfl), hempty.ok, hempty.slotsOk nofun nofun⟩

section
variable {s t : State} (h : LineOk s)
include h

/-! ### The Timebase's moments (R28, R30, R64) -/

/-- A step in a moment that is no report's grace expiry. -/
theorem LineOk.of_quietMoment (hd : ∀ c, s.expiryFollows c = false) (hr : t.receiver = s.receiver)
    (ht : t.transmitter = s.transmitter) (hs : t.station.state = s.station.state)
    (hmode : t.station.supplyMode = s.station.supplyMode)
    (ho : t.timebase.due.windowBoundary = true → t.timebase.due.graceExpiry = false) : LineOk t where
  receiver := by
    have hon : t.receiverOn = s.receiverOn := State.receiverOn_congr hmode (by rw [hs]) (by rw [ht])
    exact h.receiver.of_gates (.of_eq (by rw [hr])) (hr ▸ h.receiver.frameOk) hon (by rw [ht]) (by rw [ht]) fun hb =>
      h.receiver.attempt (.inl (ht ▸ hb))
  transmitter := ht ▸ h.transmitter
  slots := by
    refine h.slots.of_report (by rw [ht]) (by rw [ht]) hs ho fun r hx => ?_
    have hx' := ht ▸ hx
    refine ⟨(h.slots.reportAttempts r hx').imp_right fun hmark => ⟨hmark.1, .inl (by simpa [hd] using hmark.2)⟩, ?_⟩
    rw [hs]
    exact h.slots.reportKind r hx'

omit h in
theorem State.expiryFollows_of_not_due (hd : s.timebase.due.graceExpiry = false) (c : ReportContent) :
    s.expiryFollows c = false := by
  cases c <;> simp [State.expiryFollows, hd]

theorem LineOk.countedSecondEnd (ho : s.outstanding = false) :
    LineOk { s with timebase := s.timebase.endSecond s.items.length s.items.grace } := by
  simp only [State.outstanding, Bool.or_eq_false_iff] at ho
  obtain ⟨⟨⟨⟨⟨⟨-, -⟩, hboundary⟩, -⟩, hexpiry⟩, -⟩, -⟩ := ho
  refine h.of_quietMoment (State.expiryFollows_of_not_due hexpiry) rfl rfl rfl rfl fun hb => ?_
  dsimp only at hb ⊢
  cases hon : s.timebase.boundaryOn
  · simp [Timebase.endSecond, hon, Timebase.fixLength, hboundary] at hb
  · rw [Timebase.endSecond_of_on hon] at hb ⊢
    simp only [hboundary, Bool.false_or, decide_eq_true_eq] at hb
    simp only [hexpiry, Bool.false_or, decide_eq_false_iff_not, not_and]
    omega

/-! ### A window boundary (R46 to R51, R136) -/

omit h in
theorem Station.reports_commissioned {x : Station} (hr : x.reports = true) : x.state ≠ .unconfigured := fun hu => by
  simp [Station.reports, hu] at hr

omit h in
/-- R46 to R50: the boundary's report takes the slot, whatever stands there. -/
theorem LineOk.boundaryWindows (h : LineOk s) (hd : s.timebase.due.graceExpiry = false) (e : WindowEntry) :
    LineOk (s.boundaryWindows e) := by
  have hmoved (w : WindowTable) : LineOk { s with windows := w } :=
    h.of_quietMoment (State.expiryFollows_of_not_due hd) rfl rfl rfl rfl fun _ => hd
  unfold State.boundaryWindows
  dsimp only
  split
  · next hr =>
    have hline := hmoved (s.windows.move
      { e.freeze s.items.length.seconds with reportStatus := s.station.boundaryStatus } s.items.length)
    refine LineOk.queueReport hline.receiver hline.transmitter ?_ ?_
    · exact h.slots.without_report rfl rfl rfl (fun _ => hd) rfl
    · exact Station.reports_commissioned hr
  · exact hmoved _

theorem LineOk.enter {x : StationState} (hs : s.station.state ≠ .unconfigured) (hx : x ≠ .unconfigured)
    (hq : x ≠ .quieting) : LineOk (s.enter x) where
  receiver := h.enter_receiver hs hx
  transmitter := h.transmitter
  slots := h.slots.of_notice rfl ⟨rfl, rfl, rfl⟩ (iff_of_false hx hs) h.slots.noticeAttempts (fun hu => absurd hu hx)
    fun hu => absurd hu hq

theorem LineOk.firstBoundary : LineOk { s with station := s.station.firstBoundary } := by
  unfold Station.firstBoundary
  split
  · next hj => exact h.enter (x := .running) (by simp [hj]) (by decide) (by decide)
  · exact h

/-- R136: the periodic notice is requested in RUNNING only. -/
theorem LineOk.periodicNotice {running : Bool} (hs : running = true → s.station.state = .running) :
    LineOk (s.periodicNotice running) := by
  unfold State.periodicNotice
  split
  · next hn =>
    simp only [Bool.and_eq_true] at hn
    have hrunning := hs hn.1.1
    have hsame : s.enter .running = s := by rw [State.enter, ← hrunning]
    exact hsame ▸ h.enter_requestNotice (x := .running) (a := .running) (by simp [hrunning]) (by decide) nofun
  · exact h

omit h in
theorem State.readsRunning_state (hr : s.readsRunning = true) : s.station.firstBoundary.state = .running := by
  unfold State.readsRunning at hr
  unfold Station.firstBoundary
  split at hr
  case h_1 hs => simp [hs]
  case h_2 hs => simp [hs]
  case h_3 => cases hr
  case h_4 => cases hr
  case h_5 => cases hr

theorem LineOk.boundary (hd : s.timebase.due.windowBoundary = true) : LineOk s.boundary := by
  have hexpiry := h.slots.oneMoment hd
  have harmed : LineOk { s with
      timebase := { s.timebase with graceArmed := true, due := { s.timebase.due with windowBoundary := false } }
      freeCount := if s.station.state = .joining then s.freeCount + 1 else s.freeCount } :=
    h.of_quietMoment (State.expiryFollows_of_not_due hexpiry) rfl rfl rfl rfl nofun
  unfold State.boundary
  dsimp only
  split
  · exact harmed
  · next e _ =>
    refine (harmed.boundaryWindows hexpiry e).firstBoundary.periodicNotice fun hr => ?_
    simpa using State.readsRunning_state hr

/-! ### A grace expiry (R62 to R65) -/

/-- R62, R63: the transmitter at a grace expiry, which is then no longer due. -/
theorem LineOk.settleAtExpiry {status : ReportStatus} (hst : s.windows.graceEntry.map WindowEntry.reportStatus = some status)
    (hd : t.timebase.due.graceExpiry = false) (hr : t.receiver = s.receiver) (ht : t.transmitter = s.transmitter)
    (hs : t.station = s.station) : LineOk (t.settleAtExpiry status) := by
  have hon : t.receiverOn = s.receiverOn := State.receiverOn_congr (by rw [hs]) (by rw [hs]) (by rw [ht])
  have hreceiver : ReceiverOk t := h.receiver.of_gates (.of_eq (by rw [hr])) (hr ▸ h.receiver.frameOk) hon
    (by rw [ht]) (by rw [ht]) fun hb => h.receiver.attempt (.inl (ht ▸ hb))
  have hfew {u : Transmitter} (hn : u.notice = t.transmitter.notice) (hf : u.followOn = t.transmitter.followOn)
      (hrep : u.report = none) : SlotsOk { t with transmitter := u } :=
    h.slots.without_report (hn.trans (by rw [ht])) (hf.trans (by rw [ht])) (by simp [hs]) (fun _ => hd) hrep
  unfold State.settleAtExpiry
  split
  case isFalse hne =>
    refine h.of_quietMoment (fun c => ?_) hr ht (by rw [hs]) (by rw [hs]) fun _ => hd
    cases c <;> simp [State.expiryFollows, hst, hne]
  case isTrue =>
  split
  · next hsending =>
    simp only [Transmitter.isSending, Bool.and_eq_true, beq_iff_eq, ht] at hsending
    obtain ⟨hstate, hc⟩ := hsending
    obtain ⟨slot, hc', hrep, -, hf, -⟩ := h.transmitter.sending hstate
    obtain rfl : slot = .report := by simpa [hc] using hc'.symm
    refine ⟨?_, ?_, ?_⟩
    · exact hreceiver.of_gates (.of_eq rfl) hreceiver.frameOk rfl .rfl rfl fun hb => hreceiver.attempt (.inl hb)
    · rw [ht]
      exact transmitterOk_of_sending (slot := .report) hstate hc (fun _ => by simpa [Transmitter.markExpired] using hrep rfl)
        nofun hf (fun _ _ _ => rfl) ⟨h.transmitter.timers.backoff, h.transmitter.timers.stuck⟩
    · refine h.slots.of_report (by simp [ht, Transmitter.markExpired]) (by simp [ht, Transmitter.markExpired]) (by rw [hs])
        (fun _ => hd) fun r hx => ?_
      simp only [Transmitter.markExpired, ht, Option.map_eq_some_iff] at hx
      obtain ⟨q, hq, rfl⟩ := hx
      refine ⟨(h.slots.reportAttempts q hq).imp_right fun hcount => ⟨hcount.1, .inl rfl⟩, ?_⟩
      rw [hs]
      exact h.slots.reportKind q hq
  · next hwaits =>
    unfold State.withdrawStale
    by_cases hsend : t.transmitter.state = .sending
    · rw [State.chooseCurrent_sending _ (by simpa using hsend)]
      have hkept : t.transmitter.notCurrent .report = t.transmitter := by simp [Transmitter.notCurrent, hsend]
      have htrans : TransmitterOk t.transmitter := ht ▸ h.transmitter
      obtain ⟨slot, hc, -, hn, hf, -⟩ := htrans.sending hsend
      rw [hkept]
      refine ⟨?_, ?_, ?_⟩
      · exact hreceiver.of_gates (.of_eq rfl) hreceiver.frameOk rfl .rfl rfl fun hb => hreceiver.attempt (.inl hb)
      · refine transmitterOk_of_sending (slot := slot) hsend hc ?_ hn hf nofun
          ⟨htrans.timers.backoff, htrans.timers.stuck⟩
        rintro rfl
        simp [Transmitter.isSending, hsend, hc] at hwaits
      · exact h.slots.without_report (by simp [ht]) (by simp [ht]) (by simp [hs]) (fun _ => hd) rfl
    · have hchoose : Choosable (t.transmitter.notCurrent .report) :=
        Choosable.notCurrent (ht ▸ h.transmitter.choosable (by rwa [← ht])) .report
      refine LineOk.chosen ?_ (hchoose.with_slots (report := none) nofun _ .stale) ?_
      · refine hreceiver.of_rest rfl (State.receiverOn_congr rfl .rfl (by simp)) hsend (by simpa using hsend) fun hb => ?_
        exact hreceiver.attempt (.inl (by simpa using hb))
      · exact h.slots.without_report (by simp [ht]) (by simp [ht]) (by simp [hs]) (fun _ => hd) rfl

theorem LineOk.graceExpiry : LineOk s.graceExpiry := by
  unfold State.graceExpiry
  dsimp only
  split
  · next hnone =>
    refine h.of_quietMoment (fun c => ?_) rfl rfl rfl rfl fun _ => rfl
    cases c <;> simp [State.expiryFollows, hnone]
  · next e he =>
    have hsettled := h.settleAtExpiry (status := e.reportStatus) (by rw [he]; rfl) (t :=
      { s with
        timebase := { s.timebase with graceArmed := false, due := { s.timebase.due with graceExpiry := false } } })
      rfl rfl rfl rfl
    exact hsettled.of_quietMoment (State.expiryFollows_of_not_due (by simp)) (by simp) (by simp) (by simp) (by simp)
      fun _ => by simp

/-! ### The stuck line and the character time (R112, R137, R143) -/

theorem LineOk.lineStuck (hs : s.lineCanStick = true) :
    LineOk { s with transmitter := { s.transmitter with stuckTimer := stuckLimit } }.reportStuck := by
  simp only [State.lineCanStick, Bool.and_eq_true, beq_iff_eq] at hs
  have hwait := hs.1.1
  generalize hu : { s with transmitter := { s.transmitter with stuckTimer := stuckLimit } } = u
  have hslots : SameSlots s.transmitter u.reportStuck.transmitter :=
    SameSlots.trans (.of_eq (by rw [← hu]) (by rw [← hu]) (by rw [← hu])) u.reportStuck_slots
  have hstate : u.reportStuck.transmitter.state = s.transmitter.state := by simp [← hu]
  refine ⟨?_, ?_, h.slots.of_same hslots (.of_eq (by simp [← hu]) (by simp [← hu])) (by simp [← hu])⟩
  · refine h.receiver.of_rest (by simp [← hu]) (State.receiverOn_congr (by simp [← hu]) (by simp [← hu]) (by simp [← hu]))
      (by simp [hwait]) (by rw [hstate, hwait]; decide) fun hb => ?_
    rw [hstate, hwait] at hb
    cases hb
  · refine h.transmitter.of_same hslots (by simp [← hu]) (by simp [← hu]) (by rw [hstate]) (by rw [hstate]) ⟨?_, ?_⟩
    · simpa [← hu] using h.transmitter.timers.backoff
    · exact ⟨by simp [← hu], fun hne => absurd (hstate.trans hwait) hne⟩

theorem LineOk.tick : LineOk s.tick := by
  have hslots := h.transmitter.timers.backoff
  have hstuck := h.transmitter.timers.stuck
  unfold State.tick
  split
  case isFalse => exact h
  case isTrue hpasses =>
  have hlimit : s.stuckRuns = true →
      s.transmitter.state = .waitIdle ∧ s.transmitter.stuckTimer + s.items.lineRate.characterTime < stuckLimit := by
    intro hruns
    simp only [State.characterTimePasses, hruns, Bool.and_eq_true] at hpasses
    refine ⟨?_, by simpa using hpasses.2⟩
    simp only [State.stuckRuns, Bool.and_eq_true, beq_iff_eq] at hruns
    exact hruns.1.1
  refine ⟨?_, ?_, h.slots.of_same (.of_eq rfl rfl rfl) ⟨rfl, rfl, rfl⟩ rfl⟩
  · refine h.receiver.of_gates (.of_eq rfl) ⟨fun hp => ?_, ?_, h.receiver.noFrame, h.receiver.frame⟩ rfl .rfl rfl fun hb =>
      h.receiver.attempt (.inl hb)
    · have hruns : s.gapRuns = false := by simp [State.gapRuns, h.receiver.off.mp hp]
      simpa [hruns] using h.receiver.rest hp
    · dsimp only
      split
      · next hruns =>
        simp only [State.gapRuns, Bool.and_eq_true, decide_eq_true_eq] at hruns
        omega
      · exact h.receiver.gap
  · refine h.transmitter.of_same (.of_eq rfl rfl rfl) rfl rfl .rfl .rfl ⟨?_, ?_⟩
    · dsimp only
      split
      · next hb => exact ⟨by omega, fun hne => absurd hb hne⟩
      · exact hslots
    · dsimp only
      split
      · next hruns => exact ⟨le_of_lt (hlimit hruns).2, fun hne => absurd (hlimit hruns).1 hne⟩
      · exact hstuck

/-! ### Supply (R113, R145, R173, R174) -/

theorem LineOk.resting (hoff : s.receiverOn = false) :
    s.transmitter.state = .idle ∨ s.transmitter.state = .waitIdle := by
  cases hs : s.transmitter.state
  case idle => exact .inl rfl
  case waitIdle => exact .inr rfl
  case backoff => simp [h.receiver.attempt (.inl hs)] at hoff
  case sending => simp [h.receiver.attempt (.inr hs)] at hoff

omit h in
theorem State.receiverOn_of_supply (hs : s.station.supplyMode ≠ .mains) : s.receiverOn = false := by
  simp [State.receiverOn, hs]

theorem LineOk.returnToMains (hs : s.station.supplyMode ≠ .mains) : LineOk s.returnToMains := by
  have hrest := h.resting (State.receiverOn_of_supply hs)
  have hslots : SameSlots s.transmitter s.returnToMains.transmitter :=
    .of_eq (by simp [State.returnToMains]) (by simp [State.returnToMains]) (by simp [State.returnToMains])
  refine ⟨receiverOk_restartReceiver hrest, ?_, h.slots.of_same hslots (.of_eq (by simp) (by simp)) ?_⟩
  · refine h.transmitter.of_same hslots (by simp [State.returnToMains]) (by simp [State.returnToMains])
      (by simp [State.returnToMains]) (by simp [State.returnToMains]) ⟨?_, ?_⟩
    · simpa [State.returnToMains] using h.transmitter.timers.backoff
    · have hstuck := h.transmitter.timers.stuck
      rw [State.returnToMains, State.restartReceiver_eq]
      dsimp only
      split
      exacts [⟨Nat.zero_le _, fun _ => rfl⟩, hstuck]
  · simp [State.returnToMains]

theorem LineOk.leaveBackup (hs : s.station.supplyMode ≠ .mains) : LineOk s.leaveBackup := by
  have hleft : LineOk { s with converter := { s.converter with backupCount := 0 } } :=
    h.of_other rfl rfl rfl rfl ⟨rfl, rfl, rfl⟩
  unfold State.leaveBackup
  dsimp only
  split
  · exact hleft.returnToMains hs
  · have hoff := State.receiverOn_of_supply hs
    have hrest := h.resting hoff
    have hstate : s.transmitter.state ≠ .sending ∧ s.transmitter.state ≠ .backoff := by
      rcases hrest with hrest | hrest <;> simp [hrest]
    refine ⟨?_, h.transmitter, h.slots.of_same (.of_eq rfl rfl rfl) ⟨rfl, rfl, rfl⟩ rfl⟩
    exact h.receiver.of_rest rfl (by rw [hoff]; simp [State.receiverOn]) hstate.1 hstate.1 fun hb => absurd hb hstate.2

omit h in
/-- R147: a QUIETING station's dropped notice announces QUIET. -/
theorem Transmitter.quietPending.announcesQuiet {t : Transmitter} (hq : t.quietPending) : t.announcesQuiet = true := by
  rcases hq with hf | ⟨-, n, hn, ha⟩
  · simp [Transmitter.announcesQuiet, hf]
  · simp [Transmitter.announcesQuiet, hn, ha]

omit h in
/-- R145: the transmitter at the entry to BACKUP: the report that stays, waiting, or an empty queue. -/
theorem Transmitter.enterBackup_eq (t : Transmitter) :
    t.enterBackup =
      { t with
        state := if t.reportInBackup.isSome then .waitIdle else .idle
        report := t.reportInBackup, notice := none, followOn := none
        current := if t.reportInBackup.isSome then some .report else none
        backoffSlots := 0, stuckTimer := if t.reportInBackup.isSome then t.stuckTimer else 0
        lastFailure := if t.report.isSome || t.notice.isSome then .abortedBySupply else t.lastFailure
        readBack := .matched 0 } := by
  unfold Transmitter.enterBackup Transmitter.becomeIdle
  dsimp only
  split
  all_goals rfl

omit h in
theorem Transmitter.reportInBackup_some {t : Transmitter} {r : ReportSlot} :
    t.reportInBackup = some r ↔ t.report = some r ∧ r.staysInBackup = true := Option.filter_eq_some_iff

omit h in
theorem ReportSlot.staysInBackup_iff (r : ReportSlot) :
    r.staysInBackup = true ↔ (∃ w, r.content = .windowReport w) ∧ r.expired = false := by
  unfold ReportSlot.staysInBackup
  split <;> simp [*]

theorem LineOk.transmitter_enterBackup : TransmitterOk s.transmitter.enterBackup := by
  rw [Transmitter.enterBackup_eq]
  cases hr : s.transmitter.reportInBackup
  case none => exact QueueEmpty.ok ⟨rfl, rfl, rfl, rfl, rfl, rfl, rfl⟩
  case some r =>
    constructor
    case idle => simp
    case choice => exact fun _ => rfl
    case reportCurrent => exact fun _ => rfl
    case noticeCurrent => simp
    case followOn => exact fun hf => absurd rfl hf
    case expired =>
      rintro q hq he
      obtain rfl : r = q := Option.some.inj hq
      have := ((ReportSlot.staysInBackup_iff r).mp (Transmitter.reportInBackup_some.mp hr).2).2
      simp [this] at he
    case timers => exact ⟨⟨Nat.zero_le _, fun _ => rfl⟩, h.transmitter.timers.stuck.1, fun hne => absurd rfl hne⟩

theorem LineOk.enterBackup : LineOk s.enterBackup := by
  have hstate : s.enterBackup.station.state ≠ .quieting := by
    rw [enterBackup_station]
    dsimp only
    split
    · nofun
    · next hn => exact fun hq => hn ⟨(h.slots.quieting hq).announcesQuiet, hq⟩
  have hkind : s.enterBackup.station.state = .unconfigured ↔ s.station.state = .unconfigured := by
    rw [enterBackup_station]
    dsimp only
    split
    · next hq => simp [hq.2]
    · exact .rfl
  have ht : s.enterBackup.transmitter = s.transmitter.enterBackup := by simp [State.enterBackup]
  have hmoment : SameMoment s s.enterBackup := ⟨by simp, by simp, by
    unfold State.enterBackup State.withdrawExpired
    split
    all_goals simp [State.settleClosedReport]⟩
  refine ⟨?_, ht ▸ h.transmitter_enterBackup, ?_⟩
  · have hoff : s.enterBackup.receiverOn = false := State.receiverOn_of_supply (by simp [enterBackup_station])
    refine receiverOk_of_fresh (by rw [hoff]; rfl) rfl rfl rfl ?_
    rw [ht, Transmitter.enterBackup_eq]
    dsimp only
    split
    exacts [.inr rfl, .inl rfl]
  · constructor
    case reportAttempts =>
      intro r hr
      rw [ht, Transmitter.enterBackup_eq] at hr
      have hs := h.slots.reportAttempts r (Transmitter.reportInBackup_some.mp hr).1
      rwa [hmoment.expiryFollows]
    case noticeAttempts =>
      intro n hn
      simp [ht, Transmitter.enterBackup_eq] at hn
    case oneMoment => rw [hmoment.boundary, hmoment.due]; exact h.slots.oneMoment
    case reportKind =>
      intro r hr
      rw [ht, Transmitter.enterBackup_eq] at hr
      exact (ReportContent.suits_congr hkind _).mpr
        (h.slots.reportKind r (Transmitter.reportInBackup_some.mp hr).1)
    case noticeKind => exact fun _ => by rw [ht, Transmitter.enterBackup_eq]
    case quieting => exact fun hq => absurd hq hstate

/-! ### The host's commands (R147 to R149, R167) -/

theorem LineOk.commission (hs : s.station.state = .unconfigured) :
    LineOk (s.commissionBlocks.commissionLine.requestNotice .joining) := by
  have hdropped := QueueEmpty.of_dropped h hs
  have hline : LineOk s.commissionBlocks.commissionLine := by
    obtain ⟨hstate, hc, hr, hn, hf, hslots, hstuck⟩ := hdropped
    refine QueueEmpty.restarted ⟨hstate, hc, hr, hn, hf, hslots, hstuck⟩ nofun ?_
    exact h.slots.oneMoment
  have hjoining : s.commissionBlocks.commissionLine.station.state = .joining := by simp [State.commissionBlocks]
  have hsame : s.commissionBlocks.commissionLine.enter .joining = s.commissionBlocks.commissionLine := by
    rw [State.enter, ← hjoining]
  exact hsame ▸ hline.enter_requestNotice (x := .joining) (a := .joining) (by rw [hjoining]; decide) (by decide) nofun

theorem LineOk.restartLine : LineOk (restartLineEffect s).1 := by
  have hempty : QueueEmpty (restartLineEffect s).1.transmitter := ⟨rfl, rfl, rfl, rfl, rfl, rfl, rfl⟩
  have hstate : (restartLineEffect s).1.station.state ≠ .quieting := by
    simp only [restartLineEffect, State.endOfQuietNotice_station]
    split
    · nofun
    · next hne => exact hne
  have hon : (restartLineEffect s).1.receiverOn = s.receiverOn :=
    State.receiverOn_congr (by simp [restartLineEffect]) (by simp [restartLineEffect]) rfl
  exact ⟨receiverOk_of_fresh (by rw [hon]; rfl) rfl rfl rfl (.inl rfl), hempty.ok,
    hempty.slotsOk hstate (by simpa [restartLineEffect] using h.slots.oneMoment)⟩

theorem LineOk.lineTestMode (hs : s.station.state = .unconfigured) (mode : Octet) :
    LineOk (lineTestModeEffect mode s).1 := by
  unfold lineTestModeEffect
  repeat' split
  · exact h
  · exact h
  · obtain ⟨hstate, hc, hr, hn, hf, hslots, hstuck⟩ := QueueEmpty.of_dropped h hs
    exact QueueEmpty.restarted ⟨hstate, hc, hr, hn, hf, hslots, hstuck⟩ (by simp [hs]) h.slots.oneMoment

theorem LineOk.writeItem (hs : s.station.state = .unconfigured) (code : Octet) (value : BitVec 32) :
    LineOk (writeItemEffect code value s).1 := by
  unfold writeItemEffect
  split
  case h_1 => exact h
  case h_2 w _ =>
  have hstored : LineOk (s.storeItems w) := h.of_other rfl rfl rfl rfl ⟨rfl, rfl, rfl⟩
  unfold State.rateChanged
  dsimp only
  split
  · exact (QueueEmpty.of_dropped hstored hs).restarted (by simp [hs]) h.slots.oneMoment
  · exact hstored

theorem LineOk.sendTest (hs : s.station.state = .unconfigured) : LineOk (sendTestEffect s).1 := by
  unfold sendTestEffect
  split
  · exact h
  · refine LineOk.queueReport ?_ ?_ ?_ ?_
    · exact h.receiver.of_gates (.of_eq rfl) h.receiver.frameOk rfl .rfl rfl fun hb => h.receiver.attempt (.inl hb)
    · exact h.transmitter.of_same (.of_eq rfl rfl rfl) rfl rfl .rfl .rfl
        ⟨h.transmitter.timers.backoff, h.transmitter.timers.stuck⟩
    · exact h.slots.without_report rfl rfl rfl h.slots.oneMoment rfl
    · exact hs

/-! ### The settled statement -/

theorem LineOk.preserves (held : HeldAtReset s) : Preserves LineOk s where
  port := fun _ _ hu => hu.of_other rfl rfl rfl rfl ⟨rfl, rfl, rfl⟩
  writeItem := h.writeItem
  holidayAdd := fun _ _ => h.of_other rfl rfl rfl rfl ⟨rfl, rfl, rfl⟩
  holidayClear := fun _ _ => h.of_other rfl rfl rfl rfl ⟨rfl, rfl, rfl⟩
  setClock := fun _ _ _ => by
    unfold setClockEffect
    split
    exacts [h, h.of_other rfl rfl rfl rfl ⟨rfl, rfl, rfl⟩]
  trimClock := fun _ _ => by
    unfold trimClockEffect Timebase.settleSlew
    repeat' split
    exacts [h, h.of_other rfl rfl rfl rfl ⟨rfl, rfl, rfl⟩, h.of_other rfl rfl rfl rfl ⟨rfl, rfl, rfl⟩]
  commission := fun hs _ => h.commission hs
  quiet := fun hs _ _ => h.enter_requestNotice hs (by decide) fun _ => rfl
  speak := fun hs => h.enter_requestNotice (by rcases hs with hs | hs <;> simp [hs]) (by decide) nofun
  snapshot := fun _ => by
    unfold snapshotEffect
    repeat' split
    exacts [h, h.of_other (by simp) (by simp) (by simp) (by simp) (.of_eq (by simp) (by simp)), h]
  releaseRecord := by
    unfold releaseEffect
    repeat' split
    exacts [h, h.of_other rfl rfl rfl rfl ⟨rfl, rfl, rfl⟩,
      h.of_other (by simp) (by simp) (by simp) (by simp) (.of_eq (by simp) (by simp))]
  clearQueue := h.of_other rfl rfl rfl rfl ⟨rfl, rfl, rfl⟩
  readCause := h.of_other rfl rfl rfl rfl ⟨rfl, rfl, rfl⟩
  setEnables := fun _ _ _ => by
    unfold setEnablesEffect
    split
    exacts [h, h.of_other rfl rfl rfl rfl ⟨rfl, rfl, rfl⟩]
  clearFailure :=
    ⟨h.receiver.of_gates (.of_eq rfl) h.receiver.frameOk rfl .rfl rfl fun hb => h.receiver.attempt (.inl hb),
      h.transmitter.of_same (.of_eq rfl rfl rfl) rfl rfl .rfl .rfl
        ⟨h.transmitter.timers.backoff, h.transmitter.timers.stuck⟩,
      h.slots.of_same (.of_eq rfl rfl rfl) ⟨rfl, rfl, rfl⟩ rfl⟩
  restartLine := fun _ => h.restartLine
  resetConverter := fun _ => h.of_other rfl rfl rfl rfl ⟨rfl, rfl, rfl⟩
  lineTestMode := h.lineTestMode
  sendTest := h.sendTest
  reset := fun _ => lineOk_fullReset s s.rstnHigh
  rstnFalling := fun _ => lineOk_fullReset s false
  rstnRising := fun _ => lineOk_fullReset s true
  flowPulse := fun _ _ => h.of_other rfl rfl rfl rfl ⟨rfl, rfl, rfl⟩
  pfailnFollow := fun hlow b => by
    rw [State.followPin_of_held hlow held b]
    exact lineOk_fullReset { s with pfailnHigh := b } s.rstnHigh
  pfailnFallingBackup := fun _ _ _ => h.of_other rfl rfl rfl rfl ⟨rfl, rfl, rfl⟩
  pfailnFalling := fun _ _ _ =>
    LineOk.enterBackup (s := { s with pfailnHigh := false }) (h.of_other rfl rfl rfl rfl ⟨rfl, rfl, rfl⟩)
  pfailnRisingBackup := fun _ _ hs =>
    LineOk.leaveBackup (s := { s with pfailnHigh := true }) (h.of_other rfl rfl rfl rfl ⟨rfl, rfl, rfl⟩) (by simp [hs])
  pfailnRising := fun _ _ _ => h.of_other rfl rfl rfl rfl ⟨rfl, rfl, rfl⟩
  recoveryEnd := fun _ hend => by
    simp only [State.recoveryEnds, Bool.and_eq_true, beq_iff_eq] at hend
    exact h.returnToMains (by simp [hend.1])
  countedSecondEnd := fun _ _ ho => h.countedSecondEnd ho
  slewStep := fun _ => h.of_other rfl rfl rfl rfl (by unfold Timebase.settleSlew; split <;> exact ⟨rfl, rfl, rfl⟩)
  cycleEvent := fun _ _ _ _ _ _ =>
    h.of_other (by simp) (by simp) (by simp [State.cycle]) (by simp [State.cycle])
      ⟨by simp [State.cycle_timebase], by simp [State.cycle_timebase], by simp [State.cycle]⟩
  converterRestartEnd := fun _ _ => h.of_other rfl rfl rfl rfl ⟨rfl, rfl, rfl⟩
  windowBoundary := fun _ hd _ => h.boundary hd
  dayBoundary := fun _ _ => h.of_other rfl rfl rfl rfl ⟨rfl, rfl, rfl⟩
  graceExpiry := fun _ _ => h.graceExpiry
  idleGap := fun _ hg => h.idleGap hg
  character := fun _ hon => h.character hon
  frameReceived := fun _ => h.judgeWaiting
  backoffExpiry := fun _ => h.startSending
  txCollision := fun _ hc => by
    simp only [Transmitter.canCollide, Bool.and_eq_true, beq_iff_eq] at hc
    exact h.collide hc.1.1
  txSuccess := fun _ hc => by
    simp only [Transmitter.canSucceed, Bool.and_eq_true, beq_iff_eq] at hc
    exact h.succeed hc.1
  lineStuck := fun _ => h.lineStuck
  irqnPulseEnd := fun _ => h.of_other rfl rfl rfl rfl ⟨rfl, rfl, rfl⟩
  startBit := fun _ hs => by
    simp only [State.sourceStarts, Bool.and_eq_true] at hs
    exact h.startBit hs.1

end

/-- Settles O59: receiver, transmitter and queue through every command (`LineOk.preserves`). An attempt is followed from its
start to the choice of the next current frame, and a report is kept apart from the grace expiry of its moment. -/
theorem stepKeepsLine : Obligations.StepKeepsLine := by
  unfold Obligations.StepKeepsLine
  intro s t held _ hreceiver hqueue hstep
  have h : LineOk s := (lineOk_iff s).mpr ⟨hreceiver, hqueue⟩
  refine (lineOk_iff t).mp (step_keeps hstep h (fun _ _ hu => hu.of_other rfl rfl rfl rfl ⟨rfl, rfl, rfl⟩) h.tick fun q => ?_)
  exact LineOk.preserves (h.of_other rfl rfl rfl rfl ⟨rfl, rfl, rfl⟩) (held.with_pending q)

end Sys2Proof.Machine

/-! SUPPORT. The statements about reset, the port and the short commands: O60, O49, O1, O3, O5, O21 and O27. -/

namespace Sys2Proof.Machine

/-! ### The full reset (R180) -/

/-- Settles O60: the full-reset values have every invariant, and the state after reset is one of them. -/
theorem resetHasWhatStepsKeep : Obligations.ResetHasWhatStepsKeep := by
  unfold Obligations.ResetHasWhatStepsKeep
  have hreset : State.reset = { State.reset.fullReset with rstnHigh := true } := rfl
  obtain ⟨hitems, hqueue, hfields⟩ := (rangesOk_iff _).mp (hreset ▸ rangesOk_fullReset State.reset true)
  obtain ⟨hwindows, hpeers⟩ := hreset ▸ tablesOk_fullReset State.reset true
  obtain ⟨hreceiver, hline⟩ := (lineOk_iff _).mp (hreset ▸ lineOk_fullReset State.reset true)
  exact ⟨heldAtReset_of_high rfl, hreset ▸ stationOk_fullReset State.reset true,
    hreset ▸ clockOk_fullReset State.reset true, hitems, hreset ▸ causesOk_fullReset State.reset true, hwindows, hpeers,
    hqueue, hfields, hreset ▸ meteringOk_fullReset State.reset true, hreceiver, hline⟩

/-- Settles O49: RESET and the edges of RSTN, each by its equation. -/
theorem fullReset : Obligations.FullReset := by
  intro s item meter reset
  have hvalue (r : Bool) : { s.fullReset with rstnHigh := r } = reset r := rfl
  refine ⟨fun hopen => ?_, fun hr => ?_, fun hr => ?_, fun hr => ?_, fun hr => ?_⟩
  · obtain ⟨hr, hp⟩ := hopen
    have hsame : { s.fullReset with rstnHigh := true } = s.fullReset := by rw [← hr]; rfl
    rw [exec_reset, if_pos (by simp [hr, hp]), ← hvalue, hsame]
  · rw [exec_rstnFalling, hr, ← hvalue]
    rfl
  · rw [exec_rstnRising, hr, ← hvalue]
    rfl
  · rw [exec_rstnFalling, hr]
    rfl
  · rw [exec_rstnRising, hr]
    rfl

/-! ### The queue -/

/-- Settles O1, by the equation of `step` on a queue that is not empty. -/
theorem stepTakesTheFrontCommand : Obligations.StepTakesTheFrontCommand := fun _ _ _ => rfl

section
variable (s : State)

theorem Preserves.pending : Preserves (fun t => t.pending = s.pending) s where
  port := fun _ _ hu => hu
  writeItem := fun _ code value => by
    unfold writeItemEffect
    split <;> simp
  holidayAdd := fun _ _ => rfl
  holidayClear := fun _ _ => rfl
  setClock := fun _ _ _ => by
    unfold setClockEffect
    split <;> rfl
  trimClock := fun _ _ => by
    unfold trimClockEffect
    split <;> rfl
  commission := fun _ _ => by simp
  quiet := fun _ _ _ => by simp
  speak := fun _ => by simp
  snapshot := fun _ => by
    unfold snapshotEffect
    repeat' split
    all_goals simp
  releaseRecord := by
    unfold releaseEffect
    repeat' split
    all_goals simp
  clearQueue := rfl
  readCause := rfl
  setEnables := fun _ _ _ => by
    unfold setEnablesEffect
    split <;> rfl
  clearFailure := rfl
  restartLine := fun _ => by simp [restartLineEffect]
  resetConverter := fun _ => rfl
  lineTestMode := fun _ _ => by
    unfold lineTestModeEffect
    repeat' split
    all_goals simp
  sendTest := fun _ => by
    unfold sendTestEffect
    split <;> simp
  reset := fun _ => rfl
  rstnFalling := fun _ => rfl
  rstnRising := fun _ => rfl
  flowPulse := fun _ _ => rfl
  pfailnFollow := fun _ _ => rfl
  pfailnFallingBackup := fun _ _ _ => rfl
  pfailnFalling := fun _ _ _ => by simp
  pfailnRisingBackup := fun _ _ _ => by simp
  pfailnRising := fun _ _ _ => rfl
  recoveryEnd := fun _ _ => by simp
  countedSecondEnd := fun _ _ _ => rfl
  slewStep := fun _ => rfl
  cycleEvent := fun _ _ _ _ _ _ => by simp
  converterRestartEnd := fun _ _ => rfl
  windowBoundary := fun _ _ _ => by simp
  dayBoundary := fun _ _ => rfl
  graceExpiry := fun _ _ => by simp
  idleGap := fun _ _ => by simp
  character := fun _ _ _ _ => by simp
  frameReceived := fun _ => by simp
  backoffExpiry := fun _ _ => by simp
  txCollision := fun _ _ => by simp
  txSuccess := fun _ _ => by simp
  lineStuck := fun _ _ => by simp
  irqnPulseEnd := fun _ => rfl
  startBit := fun _ _ => by simp

end

theorem exec_illFormed {octet : Octet} (h : namesCommand octet = true) (s : State) :
    exec (.unknownCommand octet) s = .fault (.illFormedCommand octet) := by rw [exec_unknownCommand, if_pos h]

theorem exists_next_of_wellFormed {c : Instr} (h : c.wellFormed = true) (s : State) : ∃ t, exec c s = .next t := by
  rcases instr_kinds c with ⟨e, he⟩ | ⟨e, he⟩ | hpin | ⟨octet, rfl, hnames⟩
  · exact ⟨_, exec_of_hostEffect he s⟩
  · exact ⟨_, exec_of_eventEffect he s⟩
  · simp only [List.mem_cons, List.not_mem_nil, or_false] at hpin
    rcases hpin with rfl | rfl | rfl | rfl | rfl | rfl | rfl
    all_goals exact ⟨_, rfl⟩
  · simp [Instr.wellFormed, hnames] at h

/-- Settles O3: every kind of command has an equation that answers a next state, and no effect touches the queue
(`Preserves.pending`). -/
theorem everyWellFormedCommandCompletes : Obligations.EveryWellFormedCommandCompletes := by
  intro c s
  refine ⟨fun h => ?_, ?_⟩
  · obtain ⟨t, ht⟩ := exists_next_of_wellFormed h s
    exact ⟨t, ht, exec_keeps (P := fun t => t.pending = s.pending) ht rfl (.pending s)⟩
  · rintro octet rfl hnames
    exact exec_illFormed hnames s

/-! ### The port (R181 to R183) -/

theorem State.miso_of_idle {s : State} (h : s.port.phase = .idle) (bit : Nat) : s.miso bit = none := by
  rw [State.miso, Port.misoOctet_idle h]
  rfl

theorem State.miso_of_untaken {s : State} (h : s.port.phase = .opened ∨ s.port.phase = .ignored) (bit : Nat) :
    s.miso bit = some false := by
  rw [State.miso, Port.misoOctet_untaken h, Option.map_some]
  exact congrArg some BitVec.getLsbD_zero

/-- R181: a response octet leaves from its most significant bit. -/
theorem State.miso_answered (s : State) (status : Status) (body : List Octet) (n : Nat) {k : Nat} (hk : k < 8) :
    (s.answered status body).miso (8 * n + k) =
      some (((status.code :: body)[n]?.getD 0x00).getLsbD (7 - k)) := by
  have hdiv : (8 * n + k) / 8 = n := by omega
  have hmod : (8 * n + k) % 8 = k := by omega
  rw [State.miso, hdiv, hmod]
  rfl

theorem unnamed_of_wellFormed {c : Instr} (hw : c.wellFormed = true) (octet : Octet) (hc : c = .unknownCommand octet) :
    namesCommand octet = false := by
  subst hc
  simpa [Instr.wellFormed] using hw

/-- R179, R181: the commands the host spells are taken as host commands, RESET apart. -/
theorem hostEffect_of_encodes {c : Instr} (hw : ∀ octet, c = .unknownCommand octet → namesCommand octet = false) (he : (encodeTransaction c).isSome = true)
    (hc : c ≠ .reset) : ∃ e, hostEffect c = some e := by
  cases c
  case reset => exact absurd rfl hc
  case unknownCommand octet =>
    exact ⟨_, by rw [hostEffect_unknownCommand, hw octet rfl]; rfl⟩
  case writeItem | holidayAdd | holidayClear | readItem | setClock | trimClock | commission | quiet | speak | snapshot
      | fetchRecord | releaseRecord | clearQueue | readStatus | readCause | setEnables | readWindow | readPeer
      | readTotals | readLine | clearFailure | restartLine | resetConverter | lineTestMode | sendTest =>
    exact ⟨_, rfl⟩
  all_goals cases he

theorem exec_of_closed {c : Instr} {s : State} (hclosed : ¬s.portOpen) (hw : c.wellFormed = true)
    (he : (encodeTransaction c).isSome = true) : exec c s = .next s := by
  by_cases hc : c = .reset
  · subst hc
    rw [exec_reset, if_neg]
    simpa [State.portOpen] using hclosed
  · obtain ⟨e, heff⟩ := hostEffect_of_encodes (unnamed_of_wellFormed hw) he hc
    rw [exec_of_hostEffect heff]
    exact takeCommand_of_not_opened hclosed

/-- Settles O5: the port's edges, the octet that names no command, a closed port, and MISO by the phase of the port. -/
theorem transactionsAtThePort : Obligations.TransactionsAtThePort := by
  intro s
  refine ⟨fun hp => ?_, fun hp => ?_, rfl, fun hopen octet hnames => ?_, fun hclosed c hw he => exec_of_closed hclosed hw he,
    fun hp => State.miso_of_idle hp, fun hp => State.miso_of_untaken hp, fun status body n k hk =>
    s.miso_answered status body n hk, ⟨_, rfl, State.miso_of_idle rfl⟩, fun hopen => ?_⟩
  · rw [exec_ssnFalling, Port.falls, if_pos hp]
  · rw [exec_ssnFalling, Port.falls, if_neg hp]
  · rw [exec_unknownCommand, hnames]
    exact takeCommand_of_statusOnly hopen rfl
  · obtain ⟨hr, hp⟩ := hopen
    refine ⟨s.fullReset, by rw [exec_reset, hr, hp]; rfl, State.miso_of_untaken (.inr ?_)⟩
    simp [State.fullReset, hp]

/-! ### Flow pulses, the converter's restart, the day boundary (R3, R6, R7, R29, R91) -/

/-- R3: the pulse counter of a present circuit stands still at 255. -/
theorem CircuitMeter.countPulse_eq (m : CircuitMeter) :
    m.countPulse =
      if m.state = .absent then m
      else { m with pulseCounter := if m.pulseCounter < 255 then m.pulseCounter + 1 else 255 } := by
  have hheld : min 255 (m.pulseCounter + 1) = if m.pulseCounter < 255 then m.pulseCounter + 1 else 255 := by
    split <;> omega
  rw [← hheld]
  rfl

/-- Settles O21: flow pulses, RESET CONVERTER in both kinds of state, and the end of the restart where it is due. -/
theorem flowPulsesAndConverterRestart : Obligations.FlowPulsesAndConverterRestart := by
  refine ⟨fun s hr => ?_, fun s => ⟨fun hopen hs => ?_, fun hopen hs => ?_, fun hr hstate hcount => ?_, fun hr hnot => ?_⟩⟩
  · intro counted
    have hcount (m : CircuitMeter) : m.countPulse = counted m := m.countPulse_eq
    rw [exec_of_eventEffect (e := fun s => { s with meters := changeMeter CircuitMeter.countPulse .heat s.meters }) rfl,
      exec_of_eventEffect (e := fun s => { s with meters := changeMeter CircuitMeter.countPulse .cool s.meters }) rfl,
      takeEvent_of_high hr, takeEvent_of_high hr, ← hcount, ← hcount]
    exact ⟨rfl, rfl⟩
  · rw [exec_of_hostEffect (e := commissionedOnly 0 resetConverterEffect) rfl]
    exact takeCommand_of_respond hopen (commissionedOnly_of_commissioned hs)
  · rw [exec_of_hostEffect (e := commissionedOnly 0 resetConverterEffect) rfl]
    exact takeCommand_of_statusOnly hopen (commissionedOnly_of_unconfigured hs)
  · rw [exec_of_eventEffect (c := .converterRestartEnd) rfl, takeEvent_of_high hr, if_pos]
    simp [State.restartEnds, hstate, hcount]
  · rw [exec_of_eventEffect (c := .converterRestartEnd) rfl, takeEvent_of_high hr, if_neg]
    simpa [State.restartEnds] using hnot

/-- Settles O27: the roll of CURRENT to CLOSING where a day boundary is due, and nothing where none is. -/
theorem dayBoundaryRollsContexts : Obligations.DayBoundaryRollsContexts := by
  intro s hr
  rw [exec_of_eventEffect (c := .dayBoundary) rfl, takeEvent_of_high hr]
  refine ⟨fun hd => by rw [hd]; rfl, fun hd c hc => ?_⟩
  rw [if_pos hd, Contexts.rollOver, hc]
  rfl

end Sys2Proof.Machine

/-! SUPPORT. How a host command is answered (R182 to R184): the statuses, what a refusal leaves, and the table of station
states. Settles O6 and O7. -/

namespace Sys2Proof.Machine

/-! ### Answers -/

/-- R182 to R184: a command is answered with a status and response octets; one other than OK or CLAMPED comes of a command that
changed nothing, with octets of 0x00; and where it is accepted the status is not NOT_NOW. -/
def Answered (accepted : Prop) (s : State) (r : State × List Octet) : Prop :=
  ∃ status body, r.2 = respond status body ∧
    (status ≠ .ok → status ≠ .clamped → r.1 = s ∧ ∀ o ∈ body, o = 0x00) ∧ (accepted → status ≠ .notNow)

section
variable {A : Prop} {s u : State}

theorem Answered.ok (body : List Octet) : Answered A s (u, respond .ok body) :=
  ⟨.ok, body, rfl, fun h => absurd rfl h, fun _ => by decide⟩

theorem Answered.clamped (body : List Octet) : Answered A s (u, respond .clamped body) :=
  ⟨.clamped, body, rfl, fun _ h => absurd rfl h, fun _ => by decide⟩

theorem Answered.statusOnly {x : Status} (h : A → x ≠ .notNow) (n : Nat) : Answered A s (statusOnly x n s) :=
  ⟨x, zeros n, rfl, fun _ _ => ⟨rfl, fun _ ho => List.eq_of_mem_replicate ho⟩, h⟩

theorem Answered.written {x : Status} (h : x = .ok ∨ x = .clamped ∨ x = .badValue ∧ u = s) :
    Answered A s (u, respond x []) := by
  rcases h with rfl | rfl | ⟨rfl, rfl⟩
  · exact .ok []
  · exact .clamped []
  · exact .statusOnly (fun _ => by decide) 0

section
variable {n : Nat} {e : State → State × List Octet}

theorem Answered.unconfiguredOnly (ha : A → s.station.state = .unconfigured)
    (h : s.station.state = .unconfigured → Answered A s (e s)) : Answered A s (unconfiguredOnly n e s) := by
  by_cases hs : s.station.state = .unconfigured
  · rw [unconfiguredOnly_of_unconfigured hs]; exact h hs
  · rw [unconfiguredOnly_of_commissioned hs]; exact .statusOnly (fun hA => absurd (ha hA) hs) n

theorem Answered.commissionedOnly (ha : A → s.station.state ≠ .unconfigured)
    (h : s.station.state ≠ .unconfigured → Answered A s (e s)) : Answered A s (commissionedOnly n e s) := by
  by_cases hs : s.station.state = .unconfigured
  · rw [commissionedOnly_of_unconfigured hs]; exact .statusOnly (fun hA => absurd hs (ha hA)) n
  · rw [commissionedOnly_of_commissioned hs]; exact h hs

theorem Answered.afterJoiningOnly (ha : A → s.station.state ≠ .unconfigured ∧ s.station.state ≠ .joining)
    (h : Answered A s (e s)) : Answered A s (afterJoiningOnly n e s) := by
  by_cases hs : s.station.state = .unconfigured ∨ s.station.state = .joining
  · rw [afterJoiningOnly_of_not_past hs]
    exact .statusOnly (fun hA => absurd hs (by simp [ha hA])) n
  · rw [afterJoiningOnly_of_past (fun hu => hs (.inl hu)) fun hj => hs (.inr hj)]; exact h

end

/-! ### Writes (R176) -/

/-- R176: a write stores and is answered OK or CLAMPED, or stores nothing and is answered BAD_VALUE. -/
theorem judgeItemWrite_cases {i : Items} {c : Calendar} {code : Octet} {value : BitVec 32} {w : ItemWrite}
    (h : judgeItemWrite i c code value = some w) :
    w.status = .ok ∨ w.status = .clamped ∨ w = { items := i, calendar := c, status := .badValue } := by
  have hclamped (low high v : Nat) (store : Nat → Items) : (clampedWrite c low high v store).status = .ok ∨
      (clampedWrite c low high v store).status = .clamped ∨
      clampedWrite c low high v store = { items := i, calendar := c, status := .badValue } := by
    unfold clampedWrite
    dsimp only
    split
    exacts [.inl rfl, .inr (.inl rfl)]
  have henumerated {α : Type} (v : Option α) (store : α → Items) : (enumeratedWrite i c v store).status = .ok ∨
      (enumeratedWrite i c v store).status = .clamped ∨
      enumeratedWrite i c v store = { items := i, calendar := c, status := .badValue } := by
    cases v
    exacts [.inr (.inr rfl), .inl rfl]
  unfold judgeItemWrite at h
  dsimp only at h
  split at h
  case h_17 =>
    repeat' split at h
    all_goals cases h
    all_goals exact .inl rfl
  all_goals cases h
  case h_1 | h_2 | h_5 | h_9 | h_11 => exact henumerated _ _
  case h_3 | h_6 | h_7 | h_8 | h_10 | h_12 | h_14 => exact hclamped _ _ _ _
  case h_4 | h_16 => exact .inl rfl
  case h_13 =>
    split
    exacts [.inl rfl, .inr (.inr rfl)]
  case h_15 =>
    unfold addHoliday
    repeat' split
    exacts [.inr (.inr rfl), .inl rfl, .inl rfl, .inr (.inr rfl)]

theorem writeItemEffect_answered (code : Octet) (value : BitVec 32) : Answered A s (writeItemEffect code value s) := by
  unfold writeItemEffect
  split
  · exact .statusOnly (fun _ => by decide) 0
  · next w hw =>
    refine .written ((judgeItemWrite_cases hw).imp_right fun h => h.imp_right fun hbad => ?_)
    subst hbad
    refine ⟨rfl, ?_⟩
    rw [State.rateChanged, if_neg (fun h => by cases h.2)]
    rfl

theorem holidayAddEffect_answered (value : BitVec 32) : Answered A s (holidayAddEffect value s) := by
  unfold holidayAddEffect addHoliday
  dsimp only
  repeat' split
  exacts [.written (.inr (.inr ⟨rfl, rfl⟩)), .ok [], .ok [], .written (.inr (.inr ⟨rfl, rfl⟩))]

/-! ### The other commands -/

theorem setClockEffect_answered (day : BitVec 16) (second : BitVec 24) : Answered A s (setClockEffect day second s) := by
  unfold setClockEffect
  split
  exacts [.statusOnly (fun _ => by decide) 0, .ok []]

theorem trimClockEffect_answered (seconds : BitVec 8) : Answered A s (trimClockEffect seconds s) := by
  unfold trimClockEffect trimStatus
  repeat' split
  exacts [.ok [], .ok [], .clamped []]

theorem commissionEffect_answered : Answered A s (commissionEffect s) := by
  unfold commissionEffect
  split
  exacts [.ok [], .statusOnly (fun _ => by decide) 0]

theorem quietEffect_answered : Answered A s (quietEffect s) := by
  unfold quietEffect
  split
  exacts [.ok [], .ok []]

theorem speakEffect_answered : Answered A s (speakEffect s) := by
  unfold speakEffect
  split
  exacts [.ok [], .ok []]

/-- R90: a commissioned station has a CURRENT context to take a SNAPSHOT of. -/
theorem snapshotEffect_answered (ha : A → s.contexts.current.isSome = true) : Answered A s (snapshotEffect s) := by
  unfold snapshotEffect
  repeat' split
  · exact .statusOnly (fun _ => by decide) 0
  · exact .ok []
  · next hnone => exact .statusOnly (fun hA => by simpa [hnone] using ha hA) 0

theorem readItemEffect_answered (code : Octet) : Answered A s (readItemEffect code s) := by
  unfold readItemEffect
  split
  exacts [.statusOnly (fun _ => by decide) _, .statusOnly (fun _ => by decide) _, .ok _]

theorem fetchEffect_answered : Answered A s (fetchEffect s) := by
  unfold fetchEffect
  split
  exacts [.ok _, .statusOnly (fun _ => by decide) _]

theorem releaseEffect_answered : Answered A s (releaseEffect s) := by
  unfold releaseEffect
  repeat' split
  exacts [.statusOnly (fun _ => by decide) 0, .ok [], .ok []]

theorem setEnablesEffect_answered (enables : BitVec 16) (master mode : Octet) :
    Answered A s (setEnablesEffect enables master mode s) := by
  unfold setEnablesEffect
  split
  exacts [.statusOnly (fun _ => by decide) 0, .ok []]

theorem readWindowEffect_answered (selector : Octet) : Answered A s (readWindowEffect selector s) := by
  unfold readWindowEffect
  repeat' split
  exacts [.statusOnly (fun _ => by decide) _, .ok _, .statusOnly (fun _ => by decide) _]

theorem readPeerEffect_answered (address : Octet) : Answered A s (readPeerEffect address s) := by
  unfold readPeerEffect
  repeat' split
  exacts [.statusOnly (fun _ => by decide) _, .ok _, .statusOnly (fun _ => by decide) _]

theorem lineTestModeEffect_answered (mode : Octet) : Answered A s (lineTestModeEffect mode s) := by
  unfold lineTestModeEffect
  repeat' split
  exacts [.statusOnly (fun _ => by decide) 0, .ok [], .ok []]

/-- R149: SEND TEST has a condition of its own that gives NOT_NOW. -/
theorem sendTestEffect_answered (ha : ¬A) : Answered A s (sendTestEffect s) := by
  unfold sendTestEffect
  split
  exacts [.statusOnly (fun hA => absurd hA ha) 0, .ok []]

/-! ### The table of station states (R184) -/

/-- R184: the table accepts the command on a sound station, and no condition of its own gives NOT_NOW. -/
def TableAccepts (c : Instr) (s : State) : Prop := StationOk s ∧ acceptedIn c s.station.state = true ∧ c ≠ .sendTest

theorem hostEffect_answered {c : Instr} {e : State → State × List Octet} (h : hostEffect c = some e) (s : State) :
    Answered (TableAccepts c s) s (e s) := by
  have hunconfigured {c : Instr} (hc : ∀ x, acceptedIn c x = (x == .unconfigured)) (ha : TableAccepts c s) :
      s.station.state = .unconfigured := by simpa [hc] using ha.2.1
  have hcommissioned {c : Instr} (hc : ∀ x, acceptedIn c x = (x != .unconfigured)) (ha : TableAccepts c s) :
      s.station.state ≠ .unconfigured := by simpa [hc] using ha.2.1
  cases c
  case unknownCommand octet =>
    rw [hostEffect_unknownCommand] at h
    split at h
    · cases h
    · cases h; exact .statusOnly (fun _ => by decide) 0
  all_goals cases h
  case writeItem code value => exact .unconfiguredOnly (hunconfigured fun _ => rfl) fun _ => writeItemEffect_answered code value
  case holidayAdd value => exact .unconfiguredOnly (hunconfigured fun _ => rfl) fun _ => holidayAddEffect_answered value
  case holidayClear value => exact .unconfiguredOnly (hunconfigured fun _ => rfl) fun _ => .ok []
  case readItem code => exact readItemEffect_answered code
  case setClock day second => exact .unconfiguredOnly (hunconfigured fun _ => rfl) fun _ => setClockEffect_answered day second
  case trimClock seconds => exact .commissionedOnly (hcommissioned fun _ => rfl) fun _ => trimClockEffect_answered seconds
  case commission => exact .unconfiguredOnly (hunconfigured fun _ => rfl) fun _ => commissionEffect_answered
  case quiet =>
    refine .afterJoiningOnly (fun ha => ?_) quietEffect_answered
    have haccepted := ha.2.1
    constructor <;> (intro hs; rw [hs] at haccepted; cases haccepted)
  case speak => exact .commissionedOnly (hcommissioned fun _ => rfl) fun _ => speakEffect_answered
  case snapshot =>
    refine .commissionedOnly (hcommissioned fun _ => rfl) fun hs => snapshotEffect_answered fun ha => ?_
    rw [ha.1.current, ha.1.flag]
    exact hs
  case fetchRecord => exact fetchEffect_answered
  case releaseRecord => exact releaseEffect_answered
  case clearQueue | readStatus | readCause | readTotals | readLine | clearFailure => exact .ok _
  case setEnables enables master mode => exact setEnablesEffect_answered enables master mode
  case readWindow selector => exact readWindowEffect_answered selector
  case readPeer address => exact readPeerEffect_answered address
  case restartLine | resetConverter => exact .commissionedOnly (hcommissioned fun _ => rfl) fun _ => .ok []
  case lineTestMode mode => exact .unconfiguredOnly (hunconfigured fun _ => rfl) fun _ => lineTestModeEffect_answered mode
  case sendTest =>
    exact .unconfiguredOnly (hunconfigured fun _ => rfl) fun _ => sendTestEffect_answered fun ha => ha.2.2 rfl

/-- R184: where the table refuses a command it gives NOT_NOW alone. -/
theorem hostEffect_of_refused {c : Instr} {e : State → State × List Octet} (h : hostEffect c = some e)
    (ha : acceptedIn c s.station.state = false) : e s = statusOnly .notNow 0 s := by
  have hunconfigured {c : Instr} (hc : ∀ x, acceptedIn c x = (x == .unconfigured))
      (ha : acceptedIn c s.station.state = false) : s.station.state ≠ .unconfigured := by simpa [hc] using ha
  have hcommissioned {c : Instr} (hc : ∀ x, acceptedIn c x = (x != .unconfigured))
      (ha : acceptedIn c s.station.state = false) : s.station.state = .unconfigured := by simpa [hc] using ha
  cases c
  case writeItem | holidayAdd | holidayClear | setClock | commission | lineTestMode | sendTest =>
    cases h
    exact unconfiguredOnly_of_commissioned (hunconfigured (fun _ => rfl) ha)
  case trimClock | speak | snapshot | restartLine | resetConverter =>
    cases h
    exact commissionedOnly_of_unconfigured (hcommissioned (fun _ => rfl) ha)
  case quiet =>
    cases h
    refine afterJoiningOnly_of_not_past ?_
    cases hs : s.station.state
    case unconfigured => exact .inl rfl
    case joining => exact .inr rfl
    all_goals
      rw [hs] at ha
      cases ha
  all_goals cases ha

end

/-- Settles O6: a host command has an effect of its own (`hostEffect_of_encodes`), which the table's refusal replaces
(`hostEffect_of_refused`) and its acceptance lets answer otherwise (`hostEffect_answered`). -/
theorem stationStateTable : Obligations.StationStateTable := by
  intro c s hst hopen hw he
  refine ⟨fun ha => ?_, fun ha htest hreset => ?_⟩
  · obtain ⟨e, heff⟩ := hostEffect_of_encodes (unnamed_of_wellFormed hw) he fun hreset => by subst hreset; cases ha
    rw [exec_of_hostEffect heff]
    exact takeCommand_of_statusOnly hopen (hostEffect_of_refused heff ha)
  · obtain ⟨e, heff⟩ := hostEffect_of_encodes (unnamed_of_wellFormed hw) he hreset
    obtain ⟨status, body, hresponse, -, hnow⟩ := hostEffect_answered heff s
    refine ⟨{ (e s).1 with port := { phase := .taken, response := (e s).2 } }, status, body, ?_, ?_, hnow ⟨hst, ha, htest⟩⟩
    · rw [exec_of_hostEffect heff, takeCommand_of_portOpen hopen]
    · rw [hresponse]
      rfl

/-- Settles O7: what each effect answers (`hostEffect_answered`); the one command that is no effect stops. -/
theorem refusalsChangeNothing : Obligations.RefusalsChangeNothing := by
  intro c s t hopen he hreset hexec
  have hnamed : ∀ octet, c = .unknownCommand octet → namesCommand octet = false := by
    rintro octet rfl
    by_contra hnames
    rw [exec_illFormed (by simpa using hnames)] at hexec
    cases hexec
  obtain ⟨e, heff⟩ := hostEffect_of_encodes hnamed he hreset
  obtain ⟨status, body, hresponse, hrefused, -⟩ := hostEffect_answered heff s
  rw [exec_of_hostEffect heff, takeCommand_of_portOpen hopen, hresponse, Host.Outcome.next.injEq] at hexec
  subst hexec
  refine ⟨status, body, rfl, fun hok hclamped => ?_⟩
  obtain ⟨hsame, hzeros⟩ := hrefused hok hclamped
  exact ⟨by rw [hsame]; rfl, hzeros⟩

end Sys2Proof.Machine

/-! SUPPORT. The octets of a transaction (R181, R193, R196): fields split and joined, and the one spelling of each host
command. Settles O4. -/

namespace Sys2Proof.Machine

/-! ### Fields, the most significant octet first (R193) -/

theorem joinOctets2_split (v : BitVec 16) : joinOctets2 (v.extractLsb' 8 8) (v.extractLsb' 0 8) = v := by
  apply BitVec.eq_of_getLsbD_eq
  intro i hi
  simp only [joinOctets2, BitVec.getLsbD_append, BitVec.getLsbD_extractLsb']
  split
  · simp [*]
  · rw [show 8 + (i - 8) = i by omega]
    simp
    omega

theorem joinOctets3_split (v : BitVec 24) :
    joinOctets3 (v.extractLsb' 16 8) (v.extractLsb' 8 8) (v.extractLsb' 0 8) = v := by
  apply BitVec.eq_of_getLsbD_eq
  intro i hi
  simp only [joinOctets3, BitVec.getLsbD_append, BitVec.getLsbD_extractLsb']
  split
  · simp [*]
  split
  · rw [show 8 + (i - 8) = i by omega, decide_eq_true (by omega), Bool.true_and]
  · rw [show 16 + (i - 8 - 8) = i by omega, decide_eq_true (by omega), Bool.true_and]

theorem joinOctets4_split (v : BitVec 32) :
    joinOctets4 (v.extractLsb' 24 8) (v.extractLsb' 16 8) (v.extractLsb' 8 8) (v.extractLsb' 0 8) = v := by
  apply BitVec.eq_of_getLsbD_eq
  intro i hi
  simp only [joinOctets4, BitVec.getLsbD_append, BitVec.getLsbD_extractLsb']
  split
  · simp [*]
  split
  · rw [show 8 + (i - 8) = i by omega, decide_eq_true (by omega), Bool.true_and]
  split
  · rw [show 16 + (i - 8 - 8) = i by omega, decide_eq_true (by omega), Bool.true_and]
  · rw [show 24 + (i - 8 - 8 - 8) = i by omega, decide_eq_true (by omega), Bool.true_and]

/-- R193: the octets of a field that has been joined. -/
theorem splitOctets2_join (a b : Octet) : splitOctets2 (joinOctets2 a b) = [a, b] := by
  simp only [splitOctets2, joinOctets2, List.cons.injEq, and_true]
  constructor
  all_goals
    apply BitVec.eq_of_getLsbD_eq
    intro i hi
    simp only [BitVec.getLsbD_extractLsb', BitVec.getLsbD_append]
    simp [hi]

theorem splitOctets3_join (a b c : Octet) : splitOctets3 (joinOctets3 a b c) = [a, b, c] := by
  simp only [splitOctets3, joinOctets3, List.cons.injEq, and_true]
  refine ⟨?_, ?_, ?_⟩
  all_goals
    apply BitVec.eq_of_getLsbD_eq
    intro i hi
    simp only [BitVec.getLsbD_extractLsb', BitVec.getLsbD_append]
    grind

theorem splitOctets4_join (a b c d : Octet) : splitOctets4 (joinOctets4 a b c d) = [a, b, c, d] := by
  simp only [splitOctets4, joinOctets4, List.cons.injEq, and_true]
  refine ⟨?_, ?_, ?_, ?_⟩
  all_goals
    apply BitVec.eq_of_getLsbD_eq
    intro i hi
    simp only [BitVec.getLsbD_extractLsb', BitVec.getLsbD_append]
    grind

/-! ### Spelling a command (R181, R196, R197) -/

theorem decodeTransaction_writeItem (item v3 v2 v1 v0 : Octet) :
    decodeTransaction [0x05, item, v3, v2, v1, v0] = some (decodeWriteItem item (joinOctets4 v3 v2 v1 v0)) := rfl

theorem decodeWriteItem_of_other {code : Octet} {value : BitVec 32} (h : (Instr.writeItem code value).wellFormed = true) :
    decodeWriteItem code value = .writeItem code value := by
  simp only [Instr.wellFormed, Bool.and_eq_true, bne_iff_ne] at h
  rw [decodeWriteItem, if_neg h.1, if_neg h.2]

theorem decodeTransaction_unknown {octet : Octet} (h : namesCommand octet = false) :
    decodeTransaction [octet] = some (.unknownCommand octet) := by
  unfold decodeTransaction
  dsimp only
  split
  case h_25 => rw [h]; rfl
  all_goals simp_all [namesCommand, argumentOctets]

/-- R181, R196: the octets of a well-formed host command spell it. -/
theorem decodeTransaction_of_encodes {c : Instr} {l : List Octet} (hw : c.wellFormed = true)
    (h : encodeTransaction c = some l) : decodeTransaction l = some c := by
  cases c
  case setEnables enables master mode =>
    cases h
    show some (Instr.setEnables (joinOctets2 _ _) master mode) = _
    rw [joinOctets2_split]
  case writeItem code value =>
    cases h
    rw [splitOctets4, decodeTransaction_writeItem, joinOctets4_split, decodeWriteItem_of_other hw]
  case holidayAdd value =>
    cases h
    rw [splitOctets4, decodeTransaction_writeItem, joinOctets4_split]
    rfl
  case holidayClear value =>
    cases h
    rw [splitOctets4, decodeTransaction_writeItem, joinOctets4_split]
    rfl
  case setClock day second =>
    cases h
    show some (Instr.setClock (joinOctets2 _ _) (joinOctets3 _ _ _)) = _
    rw [joinOctets2_split, joinOctets3_split]
  case unknownCommand octet =>
    cases h
    exact decodeTransaction_unknown (unnamed_of_wellFormed hw octet rfl)
  all_goals cases h
  all_goals rfl

/-- R181, R196: octets that take a command are the spelling of that command. -/
theorem encodes_of_decodeTransaction {l : List Octet} {c : Instr} (h : decodeTransaction l = some c) :
    c.wellFormed = true ∧ encodeTransaction c = some l := by
  unfold decodeTransaction at h
  split at h
  · cases h
  next code arguments =>
  have hcode : code = BitVec.ofNat 8 code.toNat := by simp
  split at h
  case h_26 => cases h
  case h_25 =>
    split at h
    · cases h
    · next hnames =>
      cases h
      exact ⟨by simpa [Instr.wellFormed] using hnames, rfl⟩
  case h_5 hv =>
    obtain rfl : code = 0x05 := by rw [hcode, hv]; rfl
    cases h
    unfold decodeWriteItem
    split
    · next hitem => exact ⟨rfl, by simp only [encodeTransaction, splitOctets4_join, hitem]⟩
    split
    · next hitem => exact ⟨rfl, by simp only [encodeTransaction, splitOctets4_join, hitem]⟩
    · next hadd hclear =>
      refine ⟨by simp [Instr.wellFormed, hadd, hclear], ?_⟩
      simp only [encodeTransaction, splitOctets4_join]
  case h_3 hv =>
    obtain rfl : code = 0x03 := by rw [hcode, hv]; rfl
    cases h
    exact ⟨rfl, by simp only [encodeTransaction, splitOctets2_join]; rfl⟩
  case h_6 hv =>
    obtain rfl : code = 0x06 := by rw [hcode, hv]; rfl
    cases h
    exact ⟨rfl, by simp only [encodeTransaction, splitOctets2_join, splitOctets3_join]; rfl⟩
  all_goals
    next hv =>
    cases h
    refine ⟨rfl, ?_⟩
    rw [hcode, hv]
    rfl

/-! ### How many octets a command takes (R196) -/

/-- R196: a spelling has its command octet's own number of argument octets, and an octet that names no command stands alone. -/
theorem argumentOctets_of_encodes {c : Instr} {code : Octet} {arguments : List Octet} (hw : c.wellFormed = true)
    (h : encodeTransaction c = some (code :: arguments)) :
    argumentOctets code = some arguments.length ∨ argumentOctets code = none ∧ arguments = [] := by
  cases c
  case unknownCommand octet =>
    cases h
    have hnames := unnamed_of_wellFormed hw code rfl
    exact .inr ⟨by simpa [namesCommand] using hnames, rfl⟩
  all_goals cases h
  all_goals exact .inl rfl

/-- R196: the command is taken where its own number of argument octets has followed. -/
theorem decodeTransaction_isSome {code : Octet} {arguments : List Octet} {n : Nat} (h : argumentOctets code = some n)
    (hlength : arguments.length = n) : (decodeTransaction (code :: arguments)).isSome = true := by
  have hcode : code = BitVec.ofNat 8 code.toNat := by simp
  unfold argumentOctets at h
  split at h
  case h_25 => cases h
  case h_3 hv =>
    cases h
    obtain ⟨a, b, c, d, rfl⟩ : ∃ a b c d, arguments = [a, b, c, d] := by
      match arguments, hlength with
      | [a, b, c, d], _ => exact ⟨a, b, c, d, rfl⟩
    rw [hcode, hv]
    rfl
  case h_5 | h_6 =>
    next hv =>
    cases h
    obtain ⟨a, b, c, d, e, rfl⟩ : ∃ a b c d e, arguments = [a, b, c, d, e] := by
      match arguments, hlength with
      | [a, b, c, d, e], _ => exact ⟨a, b, c, d, e, rfl⟩
    rw [hcode, hv]
    rfl
  case h_4 | h_7 | h_15 | h_16 | h_22 =>
    next hv =>
    cases h
    obtain ⟨a, rfl⟩ := List.length_eq_one_iff.mp hlength
    rw [hcode, hv]
    rfl
  all_goals
    next hv =>
    cases h
    obtain rfl := List.length_eq_zero_iff.mp hlength
    rw [hcode, hv]
    rfl

theorem decodeTransaction_isSome_iff {code : Octet} {n : Nat} (h : argumentOctets code = some n)
    (arguments : List Octet) : (decodeTransaction (code :: arguments)).isSome = true ↔ arguments.length = n := by
  refine ⟨fun hsome => ?_, decodeTransaction_isSome h⟩
  obtain ⟨c, hc⟩ := Option.isSome_iff_exists.mp hsome
  obtain ⟨hw, he⟩ := encodes_of_decodeTransaction hc
  rcases argumentOctets_of_encodes hw he with hn | ⟨hn, -⟩
  · exact Option.some.inj (hn.symm.trans h)
  · rw [hn] at h
    cases h

theorem decodeTransaction_of_unnamed {code : Octet} (h : argumentOctets code = none) (arguments : List Octet) :
    decodeTransaction (code :: arguments) = if arguments = [] then some (.unknownCommand code) else none := by
  split
  · next hnone =>
    subst hnone
    exact decodeTransaction_unknown (by simp [namesCommand, h])
  · next hsome =>
    rw [Option.eq_none_iff_forall_ne_some]
    intro c hc
    obtain ⟨hw, he⟩ := encodes_of_decodeTransaction hc
    rcases argumentOctets_of_encodes hw he with hn | ⟨-, hn⟩
    · rw [h] at hn
      cases hn
    · exact hsome hn

/-- R181: no command is taken before its last argument octet. -/
theorem decodeTransaction_take {l : List Octet} {c : Instr} (h : decodeTransaction l = some c) {k : Nat}
    (hk : k < l.length) : decodeTransaction (l.take k) = none := by
  match l, k with
  | [], _ => cases hk
  | code :: arguments, 0 => rfl
  | code :: arguments, k + 1 =>
    have hshort : k < arguments.length := Nat.lt_of_succ_lt_succ hk
    rw [List.take_succ_cons]
    cases hcode : argumentOctets code
    case none =>
      rw [decodeTransaction_of_unnamed hcode, if_neg (List.ne_nil_of_length_pos (by omega))] at h
      cases h
    case some n =>
      have hn := (decodeTransaction_isSome_iff hcode arguments).mp (by rw [h]; rfl)
      rw [← Option.not_isSome_iff_eq_none, decodeTransaction_isSome_iff hcode, List.length_take]
      omega

/-- Settles O4: encoding and decoding are inverse on well-formed host commands, and the number of argument octets tells when a
command is taken. -/
theorem transactionsSpellCommands : Obligations.TransactionsSpellCommands := by
  refine ⟨fun c l => decodeTransaction_of_encodes, fun l c h => ?_, fun code arguments n h =>
    decodeTransaction_isSome_iff h arguments, fun code arguments h => decodeTransaction_of_unnamed h arguments⟩
  obtain ⟨hw, he⟩ := encodes_of_decodeTransaction h
  exact ⟨hw, he, fun k hk => decodeTransaction_take h hk⟩

end Sys2Proof.Machine

/-! SUPPORT. The Timebase's commands (R22 to R34) and the time that passes while no command waits. Settles O18, O19, O20 and
O2. -/

namespace Sys2Proof.Machine

/-! ### The slew (R33, R34) -/

theorem sub_sign_eq (x : Int) : x - x.sign = if 0 < x then x - 1 else if x < 0 then x + 1 else 0 := by
  rcases lt_trichotomy x 0 with hx | hx | hx
  · rw [Int.sign_eq_neg_one_of_neg hx, if_neg (by omega), if_pos hx]
    omega
  · simp [hx]
  · rw [Int.sign_eq_one_of_pos hx, if_pos hx]

theorem clampInt_eq {low high : Int} (h : low ≤ high) (x : Int) : clampInt low high x = max low (min high x) := by
  unfold clampInt
  split
  · omega
  · split <;> omega

theorem Timebase.slewSettled_eq (t : Timebase) :
    t.slewSettled =
      if t.due.slewStep = false then t.slewRemaining
      else if 0 < t.slewRemaining then t.slewRemaining - 1
      else if t.slewRemaining < 0 then t.slewRemaining + 1 else 0 := by
  unfold Timebase.slewSettled
  rw [sub_sign_eq]
  cases t.due.slewStep <;> rfl

/-- R34: the Timebase once a slew step that is due has been taken. -/
theorem Timebase.settleSlew_eq (t : Timebase) :
    t.settleSlew =
      { t with
        slewRemaining := t.slewSettled
        slewCount := if t.due.slewStep = true then 0 else t.slewCount
        secondLength := if t.due.slewStep = false then t.secondLength else lengthForSlew t.slewSettled
        due := { t.due with slewStep := false } } := by
  cases hd : t.due.slewStep
  · have hdue : { t.due with slewStep := false } = t.due := by rw [← hd]
    rw [Timebase.settleSlew_of_not_due hd, Timebase.slewSettled, hdue, hd]
    rfl
  · rw [Timebase.settleSlew_of_due hd, Timebase.slewSettled, hd]
    rfl

theorem exec_slewStep (s : State) :
    exec .slewStep s = takeEvent (fun s => { s with timebase := s.timebase.settleSlew }) s := rfl

/-- R33, R34: a trim returns the slew count to 0 where the sum is 0 or reversed, and a slew step that was due has done so. -/
theorem slewCount_of_trim (due : Bool) (sum slew : Int) (count : Nat) :
    (if sum = 0 ∨ sum * slew < 0 then 0 else if due = true then 0 else count) =
      if due = true ∨ sum = 0 ∨ (0 < sum ∧ slew < 0) ∨ (sum < 0 ∧ 0 < slew) then 0 else count := by
  simp only [mul_neg_iff]
  cases due <;> simp

/-- Settles O18: TRIM CLOCK and SLEW_STEP, both through the Timebase once a slew step that is due has been taken. -/
theorem trimClockAndSlewStep : Obligations.TrimClockAndSlewStep := by
  refine ⟨fun s seconds hopen => ?_, fun s hr => ⟨fun hd => ?_, fun hd => ?_⟩⟩
  · intro due slew argument sum
    have hslew : s.timebase.slewSettled = slew := s.timebase.slewSettled_eq
    have hargument : trimArgument seconds.toInt = argument := clampInt_eq (by decide) _
    have hsum : trimmedSlew slew seconds.toInt = sum := by
      rw [trimmedSlew, hargument]
      exact clampInt_eq (by decide) _
    rw [exec_of_hostEffect (e := commissionedOnly 0 (trimClockEffect seconds)) rfl]
    refine ⟨fun hs => ?_, fun hs hzero => ?_, fun hs hzero => ?_⟩
    · exact takeCommand_of_statusOnly hopen (commissionedOnly_of_unconfigured hs)
    · exact takeCommand_of_respond hopen ((commissionedOnly_of_commissioned hs).trans (if_pos hzero))
    · refine takeCommand_of_respond hopen ?_
      rw [commissionedOnly_of_commissioned hs, trimClockEffect, if_neg hzero, Timebase.settleSlew_eq, hslew]
      simp only [Timebase.trim, hsum, trimStatus, hargument, slewCount_of_trim]
      rfl
  · rw [exec_slewStep, takeEvent_of_high hr, Timebase.settleSlew_of_not_due hd]
  · refine ⟨s.timebase.slewRemaining - s.timebase.slewRemaining.sign, ?_, ?_, ?_, ?_⟩
    · rw [exec_slewStep, takeEvent_of_high hr, Timebase.settleSlew_of_due hd]
      rfl
    · intro hpos
      rw [sub_sign_eq, if_pos hpos]
    · intro hneg
      rw [sub_sign_eq, if_neg (by omega), if_pos hneg]
    · intro hzero
      simp [hzero]

/-! ### The end of a counted second (R24 to R30) -/

theorem exec_countedSecondEnd_of_counts {s : State} (hr : s.rstnHigh = true) (hv : s.timebase.clockValid = true)
    (ho : s.outstanding = false) :
    exec .countedSecondEnd s =
      .next { s with timebase := s.timebase.endSecond s.items.length s.items.grace } := by
  rw [exec_of_eventEffect (c := .countedSecondEnd) rfl, takeEvent_of_high hr, if_pos (by simp [hv, ho])]

theorem exec_countedSecondEnd_of_invalid {s : State} (hr : s.rstnHigh = true) (hv : s.timebase.clockValid = false) :
    exec .countedSecondEnd s = .next s := by
  rw [exec_of_eventEffect (c := .countedSecondEnd) rfl, takeEvent_of_high hr, if_neg (by simp [hv])]

/-- Settles O19, by the closed form of a second's end with boundary generation OFF. -/
theorem secondEndBeforeCommission : Obligations.SecondEndBeforeCommission := by
  refine fun s hr => ⟨exec_countedSecondEnd_of_invalid hr, fun hv ho hoff hslew hlength => ?_⟩
  rw [exec_countedSecondEnd_of_counts hr hv ho, Timebase.endSecond_of_off hoff hslew hlength, Timebase.advanceSecond_eq]

/-- Settles O20, by the closed form of a second's end with boundary generation ON: no mark stood before it. -/
theorem secondEndAfterCommission : Obligations.SecondEndAfterCommission := by
  intro s hr hv ho hon b seconds windows slewed
  rw [exec_countedSecondEnd_of_counts hr hv ho, Timebase.endSecond_of_on hon]
  simp only [State.outstanding, Bool.or_eq_false_iff] at ho
  obtain ⟨⟨⟨⟨⟨⟨hslew, hcycle⟩, hboundary⟩, hday⟩, hexpiry⟩, -⟩, -⟩ := ho
  simp only [hslew, hcycle, hboundary, hday, hexpiry, Bool.false_or, hv, hon]
  rfl

/-! ### Time on an empty queue (log entry 6) -/

theorem step_of_empty {s : State} (h : s.pending = []) : step s = .next s.tick := by
  unfold step
  rw [h]

theorem State.outstanding_eq_false_iff (s : State) :
    s.outstanding = false ↔
      s.timebase.due = ⟨false, false, false, false, false⟩ ∧
      ¬(s.converter.state = .restarting ∧ s.converter.restartCount = 0) ∧
      ¬(s.station.supplyMode = .recovering ∧ s.station.recoveryCount = 0) := by
  have hdue (d : Due) : d = ⟨false, false, false, false, false⟩ ↔ d.slewStep = false ∧ d.cycleEvent = false ∧
      d.windowBoundary = false ∧ d.dayBoundary = false ∧ d.graceExpiry = false := by
    cases d
    simp
  rw [hdue]
  simp [State.outstanding, State.restartEnds, State.recoveryEnds, and_assoc]

theorem State.gapRuns_iff (s : State) :
    s.gapRuns = true ↔ s.receiverOn = true ∧ s.receiver.charInProgress = false ∧
      ¬(s.receiver.lrxAtSpace = true ∧ s.transmitter.testMode ≠ .internal) ∧ s.receiver.gapTimer < 4 := by
  simp only [State.gapRuns, State.sourceAtSpace, Bool.and_eq_true, Bool.not_eq_true', decide_eq_true_eq, and_assoc,
    Bool.and_eq_false_iff, bne_eq_false_iff_eq, not_and_or, Bool.not_eq_true, not_not]

theorem State.stuckRuns_iff (s : State) :
    s.stuckRuns = true ↔ s.transmitter.state = .waitIdle ∧ s.receiverOn = true ∧ s.transmitter.stuckTimer < 15360 := by
  simp only [State.stuckRuns, Bool.and_eq_true, beq_iff_eq, decide_eq_true_eq, and_assoc]
  rfl

/-- Where a character time passes on an empty queue. -/
theorem State.characterTimePasses_iff (s : State) :
    s.characterTimePasses = true ↔
      s.rstnHigh = true ∧ s.outstanding = false ∧ frameComplete s.receiver.frame = false ∧ s.causes.pulse = false ∧
      (s.timebase.clockValid = true →
        s.timebase.secondFraction + s.items.lineRate.characterTime < s.timebase.secondLength.units) ∧
      (s.gapRuns = true → s.receiver.gapTimer + 1 < 4) ∧
      (s.transmitter.state = .backoff → 1 < s.transmitter.backoffSlots) ∧
      (s.stuckRuns = true → s.transmitter.stuckTimer + s.items.lineRate.characterTime < 15360) := by
  simp only [State.characterTimePasses, Bool.and_eq_true, Bool.or_eq_true, Bool.not_eq_true', bne_iff_ne,
    decide_eq_true_eq, and_assoc, ← Bool.not_eq_true (_ : Bool), ne_eq, ← imp_iff_not_or]
  rfl

/-- Settles O2: the conditions of a character time (`characterTimePasses_iff`), and what it moves. -/
theorem idleStepMovesTimersOnly : Obligations.IdleStepMovesTimersOnly := by
  intro s hs b unit gapRuns stuckRuns passes
  have hgap : s.gapRuns = true ↔ gapRuns := s.gapRuns_iff
  have hstuck : s.stuckRuns = true ↔ stuckRuns := s.stuckRuns_iff
  have hpasses : s.characterTimePasses = true ↔ passes := by
    rw [State.characterTimePasses_iff, State.outstanding_eq_false_iff, hgap, hstuck]
    simp only [and_assoc]
    rfl
  rw [step_of_empty hs, State.tick]
  refine ⟨fun hnot => by rw [if_neg (mt hpasses.mp hnot)], fun hp => ?_⟩
  rw [if_pos (hpasses.mpr hp)]
  refine ⟨_, _, _, _, rfl, fun hv => if_pos hv, fun hv => if_neg (by rw [hv]; decide), fun hr => if_pos (hgap.mpr hr),
    fun hr => if_neg (mt hgap.mp hr), fun hb => ?_, fun hb => if_neg hb, fun hr => if_pos (hstuck.mpr hr),
    fun hr => if_neg (mt hstuck.mp hr)⟩
  obtain ⟨-, -, -, -, -, -, hslots, -⟩ := s.characterTimePasses_iff.mp (hpasses.mpr hp)
  have := hslots hb
  rw [if_pos hb]
  omega

end Sys2Proof.Machine

/-! SUPPORT. The layouts of READ PEER, READ TOTALS and READ LINE (R163, R193, R199): each field at its offset. Settles O10, O11
and O12. -/

namespace Sys2Proof.Machine

@[simp] theorem octetAt_octets_one (v : Nat) : octetAt (octets 1 v) 0 = BitVec.ofNat 8 v := by rw [octets_one]; rfl

/-! ### READ PEER (R163) -/

@[simp] theorem acceptanceOctets_length (a : Option Acceptance) : (acceptanceOctets a).length = 12 := by
  cases a <;> simp [acceptanceOctets]

/-- R199: the acceptance mark and the three fields beside it. -/
theorem acceptanceOctets_fields (a : Acceptance) :
    octetAt (acceptanceOctets (some a)) 0 = 0x01 ∧ fieldAt (acceptanceOctets (some a)) 1 4 = a.lastWindow % 4294967296 ∧
    (fieldAt (acceptanceOctets (some a)) 5 3 : Int) = a.offset % 16777216 ∧
    fieldAt (acceptanceOctets (some a)) 8 4 = a.offsetIndex % 4294967296 := by
  simp [acceptanceOctets, markOctet, fieldAt_append_left, fieldAt_append_right, fieldAt_cons]

@[simp] theorem PeerEntry.octets_length (p : PeerEntry) : p.octets.length = 32 := by simp [PeerEntry.octets]

theorem PeerEntry.octets_fields (p : PeerEntry) :
    octetAt p.octets 0 = BitVec.ofNat 8 p.address ∧ octetAt p.octets 1 = p.state.code ∧ octetAt p.octets 2 = p.roleCode ∧
    fieldAt p.octets 3 2 = p.weight % 65536 ∧ fieldAt p.octets 5 2 = p.lastDigest % 65536 ∧
    octetAt p.octets 7 = markOctet p.announced.isSome ∧
    octetAt p.octets 8 = (p.announced.map NoticeState.code).getD 0 ∧
    octetAt p.octets 9 = markOctet p.announcedExpected.isSome ∧
    fieldAt p.octets 10 1 = p.announcedExpected.getD 0 % 256 := by
  simp [PeerEntry.octets, fieldAt_append_left, fieldAt_append_right, octetAt_append_left, octetAt_append_right,
    fieldAt_cons]

/-- R199: the acceptance stands in octets 11 to 22. -/
theorem PeerEntry.octets_acceptance (p : PeerEntry) :
    fieldAt p.octets 11 12 = fieldAt (acceptanceOctets p.acceptance) 0 12 ∧
    octetAt p.octets 11 = octetAt (acceptanceOctets p.acceptance) 0 ∧
    fieldAt p.octets 12 4 = fieldAt (acceptanceOctets p.acceptance) 1 4 ∧
    fieldAt p.octets 16 3 = fieldAt (acceptanceOctets p.acceptance) 5 3 ∧
    fieldAt p.octets 19 4 = fieldAt (acceptanceOctets p.acceptance) 8 4 := by
  simp [PeerEntry.octets, fieldAt_append_left, fieldAt_append_right, octetAt_append_left, octetAt_append_right,
    fieldAt_cons]

/-- R151, R199: the missed count and the disposition counts. -/
theorem PeerEntry.octets_counts (p : PeerEntry) :
    fieldAt p.octets 23 1 = p.missed % 256 ∧ fieldAt p.octets 24 2 = p.accepted % 65536 ∧
    fieldAt p.octets 26 2 = p.late % 65536 ∧ fieldAt p.octets 28 2 = p.duplicate % 65536 ∧
    fieldAt p.octets 30 2 = p.farAhead % 65536 := by
  simp [PeerEntry.octets, fieldAt_append_left, fieldAt_append_right, fieldAt_cons]

theorem findPeer_of_mem {peers : List PeerEntry} (hasc : Ascending (peers.map PeerEntry.address)) {p : PeerEntry}
    (hp : p ∈ peers) : findPeer peers p.address = some p := by
  induction peers with
  | nil => cases hp
  | cons q peers ih =>
    rw [findPeer_cons]
    rw [List.map_cons] at hasc
    rcases List.mem_cons.mp hp with rfl | hmem
    · rw [if_pos rfl]
    · have hlt := List.rel_of_pairwise_cons hasc (List.mem_map_of_mem (f := PeerEntry.address) hmem)
      rw [if_neg (Nat.ne_of_lt hlt)]
      exact ih (List.Pairwise.of_cons hasc) hmem

theorem findPeer_eq_none {peers : List PeerEntry} {a : Nat} (h : ∀ p ∈ peers, p.address ≠ a) :
    findPeer peers a = none := by
  rw [findPeer, List.find?_eq_none]
  exact fun p hp => by simpa using h p hp

/-- Settles O10: the entry of an address is found where there is one, and its octets are read part by part. -/
theorem readPeerLayout : Obligations.ReadPeerLayout := by
  intro s address hopen
  rw [exec_of_hostEffect (e := readPeerEffect address) rfl]
  refine ⟨fun hbad => ?_, fun hlow hhigh hnone => ?_, fun p hasc hmem haddress hlow hhigh => ?_⟩
  · exact takeCommand_of_respond hopen (if_pos hbad)
  · refine takeCommand_of_respond hopen ?_
    rw [readPeerEffect, if_neg (by omega), findPeer_eq_none hnone]
    rfl
  · refine ⟨p.octets, takeCommand_of_respond hopen ?_, p.octets_length, ?_⟩
    · rw [readPeerEffect, if_neg (by omega), ← haddress, findPeer_of_mem hasc hmem]
    obtain ⟨h0, h1, h2, h3, h5, h7, h8, h9, h10⟩ := p.octets_fields
    obtain ⟨h11, h11', h12, h16, h19⟩ := p.octets_acceptance
    refine ⟨?_, h1, h2, h3, h5, h7, h8, h9, h10, fun ha => ?_, fun a ha => ?_, p.octets_counts⟩
    · rw [h0, haddress]
      simp
    · rw [h11, ha]
      exact fieldAt_zeros 12 0 12
    · rw [h11', h12, h16, h19, ha]
      exact acceptanceOctets_fields a

/-! ### READ TOTALS (R21) -/

@[simp] theorem CircuitMeter.octets_length (m : CircuitMeter) : m.octets.length = 28 := by simp [CircuitMeter.octets]

@[simp] theorem Reading.octets_length (r : Reading) : r.octets.length = 3 := by simp [Reading.octets]

theorem CircuitMeter.octets_fields (m : CircuitMeter) :
    octetAt m.octets 0 = m.state.code ∧ fieldAt m.octets 1 1 = m.holdCount % 256 ∧
    fieldAt m.octets 2 1 = m.goodRun % 256 ∧ fieldAt m.octets 3 3 = m.residue % 16777216 ∧
    fieldAt m.octets 6 8 = m.lifetimeEnergy % 2 ^ 64 ∧ fieldAt m.octets 14 8 = m.lifetimeVolume % 2 ^ 64 ∧
    (fieldAt m.octets 22 2 : Int) = m.heldSupply % 65536 ∧ (fieldAt m.octets 24 2 : Int) = m.heldReturn % 65536 ∧
    octetAt m.octets 26 = BitVec.ofNat 8 (flagBit m.supplyValid 0 + flagBit m.returnValid 1) ∧
    fieldAt m.octets 27 1 = m.latched % 256 := by
  simp [CircuitMeter.octets, fieldAt_append_left, fieldAt_append_right, octetAt_append_right, fieldAt_cons]

/-- R199: the two ever-valid marks. -/
theorem validMarks_bits (supply ret : Bool) :
    (BitVec.ofNat 8 (flagBit supply 0 + flagBit ret 1)).getLsbD 0 = supply ∧
    (BitVec.ofNat 8 (flagBit supply 0 + flagBit ret 1)).getLsbD 1 = ret ∧
    (BitVec.ofNat 8 (flagBit supply 0 + flagBit ret 1)).toNat < 4 := by
  revert supply ret
  decide

theorem Reading.octets_fields (r : Reading) :
    (fieldAt r.octets 0 2 : Int) = r.value % 65536 ∧ octetAt r.octets 2 = r.status.code := by
  simp [Reading.octets, fieldAt_append_left, octetAt_append_right]

@[simp] theorem totalsOctets_length (s : State) : (totalsOctets s).length = 71 := by simp [totalsOctets]

/-- R199: the heat meter's part starts at octet 0, the cool meter's at 28. -/
theorem octetAt_totalsOctets_meter (s : State) {p : Plant} {base k : Nat}
    (hbase : p = .heat ∧ base = 0 ∨ p = .cool ∧ base = 28) (hk : k < 28) :
    octetAt (totalsOctets s) (base + k) = octetAt (s.meters.get p).octets k := by
  rcases hbase with ⟨rfl, rfl⟩ | ⟨rfl, rfl⟩
  · simp [totalsOctets, octetAt_append_left, hk, PerPlant.get]
  · simp [totalsOctets, octetAt_append_left, octetAt_append_right, hk, PerPlant.get]

theorem fieldAt_totalsOctets_meter (s : State) {p : Plant} {base k n : Nat}
    (hbase : p = .heat ∧ base = 0 ∨ p = .cool ∧ base = 28) (hk : k + n ≤ 28) :
    fieldAt (totalsOctets s) (base + k) n = fieldAt (s.meters.get p).octets k n := by
  rcases hbase with ⟨rfl, rfl⟩ | ⟨rfl, rfl⟩
  · simp [totalsOctets, fieldAt_append_left, hk, PerPlant.get]
  · simp [totalsOctets, fieldAt_append_left, fieldAt_append_right, hk, PerPlant.get]

theorem totalsOctets_converter (s : State) :
    octetAt (totalsOctets s) 56 = s.converter.state.code ∧
    fieldAt (totalsOctets s) 57 1 = s.converter.restartCount % 256 ∧
    fieldAt (totalsOctets s) 58 1 = s.converter.backupCount % 256 := by
  simp [totalsOctets, fieldAt_append_left, fieldAt_append_right, octetAt_append_right, fieldAt_cons]

/-- R199: the four readings stand at octets 59, 62, 65 and 68. -/
theorem totalsOctets_reading (s : State) {x : Reading} {base : Nat}
    (hbase : x = s.converter.hs ∧ base = 59 ∨ x = s.converter.hr ∧ base = 62 ∨ x = s.converter.cs ∧ base = 65 ∨
      x = s.converter.cr ∧ base = 68) :
    fieldAt (totalsOctets s) base 2 = fieldAt x.octets 0 2 ∧
    octetAt (totalsOctets s) (base + 2) = octetAt x.octets 2 := by
  rcases hbase with ⟨rfl, rfl⟩ | ⟨rfl, rfl⟩ | ⟨rfl, rfl⟩ | ⟨rfl, rfl⟩
  all_goals
    simp [totalsOctets, fieldAt_append_left, fieldAt_append_right, octetAt_append_left, octetAt_append_right, fieldAt_cons]

/-- Settles O11: the meters', the converter's and the readings' octets, each part read for itself. -/
theorem readTotalsLayout : Obligations.ReadTotalsLayout := by
  intro s hopen
  refine ⟨totalsOctets s, ?_, totalsOctets_length s, fun p base hbase => ?_, ?_⟩
  · rw [exec_of_hostEffect (e := fun s => (s, respond .ok (totalsOctets s))) rfl]
    exact takeCommand_of_respond hopen rfl
  · obtain ⟨h0, h1, h2, h3, h6, h14, h22, h24, h26, h27⟩ := (s.meters.get p).octets_fields
    have hfield {k n : Nat} (hk : k + n ≤ 28) := fieldAt_totalsOctets_meter s hbase hk
    have hoctet {k : Nat} (hk : k < 28) := octetAt_totalsOctets_meter s hbase hk
    obtain ⟨hsupply, hreturn, hbound⟩ := validMarks_bits (s.meters.get p).supplyValid (s.meters.get p).returnValid
    rw [hfield (by decide : 1 + 1 ≤ 28), hfield (by decide : 2 + 1 ≤ 28), hfield (by decide : 3 + 3 ≤ 28),
      hfield (by decide : 6 + 8 ≤ 28), hfield (by decide : 14 + 8 ≤ 28), hfield (by decide : 22 + 2 ≤ 28),
      hfield (by decide : 24 + 2 ≤ 28), hfield (by decide : 27 + 1 ≤ 28), hoctet (by decide : 26 < 28), h26]
    exact ⟨(hoctet (by decide : 0 < 28)).trans h0, h1, h2, h3, h6, h14, h22, h24, hsupply, hreturn, hbound, h27⟩
  · obtain ⟨h56, h57, h58⟩ := totalsOctets_converter s
    refine ⟨h56, h57, h58, fun x base hbase => ?_⟩
    obtain ⟨hvalue, hstatus⟩ := totalsOctets_reading s hbase
    rw [hvalue, hstatus]
    exact x.octets_fields

/-! ### READ LINE (R130, R150) -/

@[simp] theorem RxErrors.octets_length (e : RxErrors) : e.octets.length = 8 := by simp [RxErrors.octets]

theorem RxErrors.octets_fields (e : RxErrors) :
    fieldAt e.octets 0 2 = e.framing % 65536 ∧ fieldAt e.octets 2 2 = e.stray % 65536 ∧
    fieldAt e.octets 4 2 = e.length % 65536 ∧ fieldAt e.octets 6 2 = e.crc % 65536 := by
  simp [RxErrors.octets, fieldAt_append_left, fieldAt_append_right]

/-- R130, R199: the receiver's part of the line response. -/
def receiverOctets (s : State) : List Octet :=
  octets 3 s.items.lineRate.baud ++ [markOctet s.receiverOn, s.receiver.parser.code] ++ s.receiver.errors.octets
    ++ octets 2 s.receiver.ignored ++ octets 2 s.receiver.incompatible ++ octets 2 s.receiver.addressClashes
    ++ octets 2 s.receiver.testEchoes ++ [markOctet s.receiver.lastEcho.isSome] ++ octets 2 (s.receiver.lastEcho.getD 0)

/-- R150, R199: the transmitter's part of the line response. -/
def Transmitter.octets (t : Transmitter) : List Octet :=
  [t.state.code, reportSlotCode t.report] ++ Machine.octets 1 ((t.report.map fun r => r.attempts).getD 0)
    ++ [noticeSlotCode t.notice]
    ++ [(t.notice.map fun n => n.notice.announced.code).getD 0, (t.followOn.map NoticeState.code).getD 0]
    ++ Machine.octets 1 ((t.notice.map fun n => n.attempts).getD 0) ++ [t.lastFailure.code]
    ++ Machine.octets 2 t.framesSent ++ Machine.octets 2 t.collisions ++ Machine.octets 2 t.giveUps
    ++ [t.testMode.code] ++ Machine.octets 2 t.testSequence

theorem lineOctets_eq (s : State) : lineOctets s = receiverOctets s ++ s.transmitter.octets := by
  unfold lineOctets receiverOctets Transmitter.octets
  simp only [List.append_assoc, List.cons_append, List.nil_append]

@[simp] theorem receiverOctets_length (s : State) : (receiverOctets s).length = 24 := by simp [receiverOctets]

@[simp] theorem Transmitter.octets_length (t : Transmitter) : t.octets.length = 17 := by simp [Transmitter.octets]

theorem fieldAt_lineOctets_left (s : State) {k n : Nat} (h : k + n ≤ 24) :
    fieldAt (lineOctets s) k n = fieldAt (receiverOctets s) k n := by
  rw [lineOctets_eq, fieldAt_append_left _ _ _ _ (by simpa using h)]

theorem octetAt_lineOctets_left (s : State) {k : Nat} (h : k < 24) :
    octetAt (lineOctets s) k = octetAt (receiverOctets s) k := by
  rw [lineOctets_eq, octetAt_append_left _ _ _ (by simpa using h)]

theorem fieldAt_lineOctets_right (s : State) (k n : Nat) :
    fieldAt (lineOctets s) (24 + k) n = fieldAt s.transmitter.octets k n := by
  rw [lineOctets_eq, fieldAt_append_right _ _ _ _ (by simp)]
  simp

theorem octetAt_lineOctets_right (s : State) (k : Nat) :
    octetAt (lineOctets s) (24 + k) = octetAt s.transmitter.octets k := by
  rw [lineOctets_eq, octetAt_append_right _ _ _ (by simp)]
  simp

/-- R199: an empty report slot shows code 0 and attempt count 0; an empty notice slot shows 0 in its three octets. -/
theorem Transmitter.octets_of_empty (t : Transmitter) :
    (t.report = none → fieldAt t.octets 1 2 = 0) ∧
    (t.notice = none → fieldAt t.octets 3 2 = 0 ∧ octetAt t.octets 6 = 0x00) := by
  refine ⟨fun h => ?_, fun h => ⟨?_, ?_⟩⟩
  · simp [Transmitter.octets, h, reportSlotCode, octets_one, fieldAt, ofOctets]
  · simp [Transmitter.octets, h, noticeSlotCode, octets_one, fieldAt, ofOctets]
  · simp [Transmitter.octets, h, noticeSlotCode, octets_one, octetAt]

theorem receiverOctets_fields (s : State) :
    fieldAt (receiverOctets s) 0 3 = s.items.lineRate.baud % 16777216 ∧
    octetAt (receiverOctets s) 3 = markOctet s.receiverOn ∧ octetAt (receiverOctets s) 4 = s.receiver.parser.code ∧
    fieldAt (receiverOctets s) 5 2 = s.receiver.errors.framing % 65536 ∧
    fieldAt (receiverOctets s) 7 2 = s.receiver.errors.stray % 65536 ∧
    fieldAt (receiverOctets s) 9 2 = s.receiver.errors.length % 65536 ∧
    fieldAt (receiverOctets s) 11 2 = s.receiver.errors.crc % 65536 ∧
    fieldAt (receiverOctets s) 13 2 = s.receiver.ignored % 65536 ∧
    fieldAt (receiverOctets s) 15 2 = s.receiver.incompatible % 65536 ∧
    fieldAt (receiverOctets s) 17 2 = s.receiver.addressClashes % 65536 ∧
    fieldAt (receiverOctets s) 19 2 = s.receiver.testEchoes % 65536 ∧
    octetAt (receiverOctets s) 21 = markOctet s.receiver.lastEcho.isSome ∧
    fieldAt (receiverOctets s) 22 2 = s.receiver.lastEcho.getD 0 % 65536 := by
  simp [receiverOctets, fieldAt_append_left, fieldAt_append_right, octetAt_append_right,
    fieldAt_cons, RxErrors.octets_fields]

theorem Transmitter.octets_fields (t : Transmitter) :
    octetAt t.octets 0 = t.state.code ∧ octetAt t.octets 1 = reportSlotCode t.report ∧
    fieldAt t.octets 2 1 = (t.report.map fun r => r.attempts).getD 0 % 256 ∧
    octetAt t.octets 3 = noticeSlotCode t.notice ∧
    octetAt t.octets 4 = (t.notice.map fun n => n.notice.announced.code).getD 0 ∧
    octetAt t.octets 5 = (t.followOn.map NoticeState.code).getD 0 ∧
    fieldAt t.octets 6 1 = (t.notice.map fun n => n.attempts).getD 0 % 256 ∧ octetAt t.octets 7 = t.lastFailure.code ∧
    fieldAt t.octets 8 2 = t.framesSent % 65536 ∧ fieldAt t.octets 10 2 = t.collisions % 65536 ∧
    fieldAt t.octets 12 2 = t.giveUps % 65536 ∧ octetAt t.octets 14 = t.testMode.code ∧
    fieldAt t.octets 15 2 = t.testSequence % 65536 := by
  simp [Transmitter.octets, fieldAt_append_left, fieldAt_append_right, octetAt_append_right, fieldAt_cons]

/-- Settles O12: the receiver's part and the transmitter's part, each read for itself; the transmitter's fields by its slots. -/
theorem readLineLayout : Obligations.ReadLineLayout := by
  intro s hopen
  refine ⟨lineOctets s, ?_, by simp [lineOctets_eq], ?_⟩
  · rw [exec_of_hostEffect (e := fun s => (s, respond .ok (lineOctets s))) rfl]
    exact takeCommand_of_respond hopen rfl
  obtain ⟨r0, r3, r4, r5, r7, r9, r11, r13, r15, r17, r19, r21, r22⟩ := receiverOctets_fields s
  obtain ⟨x0, x1, x2, x3, x4, x5, x6, x7, x8, x10, x12, x14, x15⟩ := s.transmitter.octets_fields
  have hfield {k n : Nat} (hk : k + n ≤ 24) := fieldAt_lineOctets_left s hk
  have hoctet {k : Nat} (hk : k < 24) := octetAt_lineOctets_left s hk
  have hfield' := fieldAt_lineOctets_right s
  have hoctet' := octetAt_lineOctets_right s
  refine ⟨?_, ?_, (hoctet (by decide)).trans r4, (hfield (by decide)).trans r5, (hfield (by decide)).trans r7,
    (hfield (by decide)).trans r9, (hfield (by decide)).trans r11, (hfield (by decide)).trans r13,
    (hfield (by decide)).trans r15, (hfield (by decide)).trans r17, (hfield (by decide)).trans r19,
    (hoctet (by decide)).trans r21, (hfield (by decide)).trans r22, (hoctet' 0).trans x0, fun hnone => ?_,
    fun k hk => ⟨fun w hw => ?_, fun n hn => ?_, ?_⟩, fun hnone => ⟨?_, ?_⟩, fun k hk => ⟨?_, ?_, ?_⟩,
    (hoctet' 5).trans x5, (hoctet' 7).trans x7, (hfield' 8 2).trans x8, (hfield' 10 2).trans x10,
    (hfield' 12 2).trans x12, (hoctet' 14).trans x14, (hfield' 15 2).trans x15⟩
  · rw [hfield (by decide), r0]
    cases s.items.lineRate <;> rfl
  · have hon : s.receiverOn = decide (s.station.supplyMode = .mains ∧
        (s.station.state ≠ .unconfigured ∨ s.transmitter.testMode ≠ .off)) :=
      Bool.eq_iff_iff.mpr ((State.receiverOn_iff s).trans decide_eq_true_iff.symm)
    rw [hoctet (by decide), r3, hon]
  · exact (hfield' 1 2).trans (s.transmitter.octets_of_empty.1 hnone)
  · rw [hoctet' 1, x1, hk, reportSlotCode, hw]
  · rw [hoctet' 1, x1, hk, reportSlotCode, hn]
  · rw [hfield' 2 1, x2, hk]
    rfl
  · exact (hfield' 3 2).trans (s.transmitter.octets_of_empty.2 hnone).1
  · exact (hoctet' 6).trans (s.transmitter.octets_of_empty.2 hnone).2
  · rw [hoctet' 3, x3, hk, noticeSlotCode]
  · rw [hoctet' 4, x4, hk]
    rfl
  · rw [hfield' 6 1, x6, hk]
    rfl

end Sys2Proof.Machine

/-! SUPPORT. The transmit queue by command: CLEAR FAILURE and the stuck line, RESTART LINE, LINE TEST MODE and SEND TEST
(R143, R144, R147 to R149). Settles O44, O45 and O46. -/

namespace Sys2Proof.Machine

variable {s : State}

/-! ### The stuck line (R143, R144) -/

theorem CauseUnit.flagOf_raised (u : CauseUnit) (c d : Cause) :
    flagOf (u.raise c).pending d = (decide (d = c) || flagOf u.pending d) := by
  rw [CauseUnit.flagOf_raise, Bool.or_comm, decide_eq_decide.mpr eq_comm]

theorem State.lineCanStick_iff (s : State) :
    s.lineCanStick = true ↔
      s.transmitter.state = .waitIdle ∧ s.receiverOn = true ∧ s.transmitter.testMode ≠ .internal := by
  simp [State.lineCanStick, and_assoc]

/-- R143: below 2 s no frame is reported as stuck. -/
theorem State.reportStuck_of_below (h : s.transmitter.stuckTimer < stuckLimit) : s.reportStuck = s :=
  if_neg fun hs => absurd hs.1 (Nat.not_le.mpr h)

theorem State.reportStuck_of_reported (h : s.transmitter.currentStuckReported = true) : s.reportStuck = s :=
  if_neg fun hs => by simp [h] at hs

theorem State.reportStuck_of_unreported (ht : stuckLimit ≤ s.transmitter.stuckTimer)
    (h : s.transmitter.currentStuckReported = false) :
    s.reportStuck =
      { s with transmitter := { s.transmitter.markStuckReported with lastFailure := .lineStuck } }.raise .txFailure :=
  if_pos ⟨ht, h⟩

theorem exec_lineStuck (hr : s.rstnHigh = true) :
    exec .lineStuck s =
      .next
        (if s.lineCanStick then
          { s with transmitter := { s.transmitter with stuckTimer := stuckLimit } }.reportStuck
        else s) := by
  rw [exec_of_eventEffect (c := .lineStuck) rfl, takeEvent_of_high hr]

/-- R143: the stuck line of the current frame, already reported or not. -/
theorem exec_lineStuck_of_frame (hr : s.rstnHigh = true) (hs : s.lineCanStick = true) {marked : Transmitter}
    (hm : { s.transmitter with stuckTimer := stuckLimit }.markStuckReported = marked) :
    (s.transmitter.currentStuckReported = true →
      exec .lineStuck s = .next { s with transmitter := { s.transmitter with stuckTimer := stuckLimit } }) ∧
    (s.transmitter.currentStuckReported = false →
      exec .lineStuck s =
        .next
          { s with
            transmitter := { marked with lastFailure := .lineStuck }
            causes := s.causes.raise .txFailure }) := by
  rw [exec_lineStuck hr, if_pos hs]
  refine ⟨fun h => ?_, fun h => ?_⟩
  · rw [State.reportStuck_of_reported (by exact h)]
  · rw [State.reportStuck_of_unreported (by exact le_rfl) (by exact h), ← hm]
    rfl

/-- Settles O44: CLEAR FAILURE, and the stuck line by the slot of the current frame and by its mark. -/
theorem stuckLineAndClearFailure : Obligations.StuckLineAndClearFailure := by
  intro s x canStick
  have hcan : canStick → s.lineCanStick = true := fun h => s.lineCanStick_iff.mpr h
  have hraised (c : Cause) := s.causes.flagOf_raised .txFailure c
  refine ⟨fun hopen => ?_, fun hr hnot => ?_, fun hr hstick hc f hf => ?_, fun hr hstick hc f hf => ?_⟩
  · rw [exec_of_hostEffect (e := clearFailureEffect) rfl]
    exact takeCommand_of_respond hopen rfl
  · rw [exec_lineStuck hr, if_neg fun h => hnot (s.lineCanStick_iff.mp h)]
  · obtain ⟨hold, hnew⟩ := exec_lineStuck_of_frame hr (hcan hstick) rfl
    have hmark : x.currentStuckReported = f.stuckReported := by simp [Transmitter.currentStuckReported, hc, hf]
    refine ⟨fun h => hold (hmark.trans h), fun h => ⟨_, ?_, hraised⟩⟩
    rw [hnew (hmark.trans h)]
    simp [Transmitter.markStuckReported, hc, hf, x, stuckLimit]
  · obtain ⟨hold, hnew⟩ := exec_lineStuck_of_frame hr (hcan hstick) rfl
    have hmark : x.currentStuckReported = f.stuckReported := by simp [Transmitter.currentStuckReported, hc, hf]
    refine ⟨fun h => hold (hmark.trans h), fun h => ⟨_, ?_, hraised⟩⟩
    rw [hnew (hmark.trans h)]
    simp [Transmitter.markStuckReported, hc, hf, x, stuckLimit]

/-! ### RESTART LINE (R147) -/

theorem State.endOfQuietNotice_eq (s : State) :
    s.endOfQuietNotice =
      { s with
        station :=
          { s.station with state := if s.station.state = .quieting then .quiet else s.station.state } } := by
  unfold State.endOfQuietNotice
  split <;> rfl

/-- Settles O45: the settled report statuses and the end of the QUIET notice, beside the restarted line. -/
theorem restartLine : Obligations.RestartLine := by
  intro s hopen discarded
  rw [exec_of_hostEffect (e := commissionedOnly 0 restartLineEffect) rfl]
  refine ⟨fun hs => ?_, fun hs => ?_⟩
  · exact takeCommand_of_statusOnly hopen (commissionedOnly_of_unconfigured hs)
  · refine takeCommand_of_respond hopen ?_
    rw [commissionedOnly_of_commissioned hs, restartLineEffect, State.endOfQuietNotice_eq]
    rfl

/-! ### LINE TEST MODE and SEND TEST (R148, R149) -/

theorem lineTestModeOfCode_of_above {mode : Octet} (h : 2 < mode.toNat) : lineTestModeOfCode mode = none := by
  unfold lineTestModeOfCode
  rw [if_neg, if_neg, if_neg]
  all_goals
    rintro rfl
    exact absurd h (by decide)

theorem lineTestModeOfCode_of_code {mode : Octet} {m : LineTestMode}
    (h : mode = 0x00 ∧ m = .off ∨ mode = 0x01 ∧ m = .internal ∨ mode = 0x02 ∧ m = .external) :
    lineTestModeOfCode mode = some m := by
  rcases h with ⟨rfl, rfl⟩ | ⟨rfl, rfl⟩ | ⟨rfl, rfl⟩ <;> rfl

theorem lineTestModeEffect_of_code {mode : Octet} {m : LineTestMode} (h : lineTestModeOfCode mode = some m) :
    lineTestModeEffect mode s =
      if m = s.transmitter.testMode then (s, respond .ok [])
      else
        ({ s.dropLineTest with transmitter := { s.dropLineTest.transmitter with testMode := m } }.restartReceiver,
          respond .ok []) := by
  rw [lineTestModeEffect, h]

/-- R137: below 2 s of a stuck line the frame goes to WAIT_IDLE, or on an idle line to BACKOFF. -/
theorem State.enterWaitIdle_of_gap (h : s.receiver.gapTimer = 4) : s.enterWaitIdle = s.enterBackoff := if_pos h

theorem State.enterWaitIdle_of_noGap (h : s.receiver.gapTimer ≠ 4) (ht : s.transmitter.stuckTimer < stuckLimit) :
    s.enterWaitIdle = { s with transmitter := { s.transmitter with state := .waitIdle, backoffSlots := 0 } } := by
  rw [State.enterWaitIdle, if_neg h]
  exact State.reportStuck_of_below ht

/-- R133: a slot newly wanted is chosen. -/
theorem State.chooseCurrent_of_wanted {slot : Slot} (hs : s.transmitter.state ≠ .sending)
    (hw : s.transmitter.wanted = some slot) (hc : s.transmitter.current ≠ some slot) :
    s.chooseCurrent = { s with transmitter := { s.transmitter with current := some slot } }.enterWaitIdle := by
  rw [State.chooseCurrent, if_neg hs, if_neg (by simp [hw]), if_neg (by rw [hw]; exact hc.symm), hw]

/-- R148: the Line Test dropped, the mode set and the receiver put on or off by it. -/
theorem State.setTestMode_eq (hs : s.station.state = .unconfigured) (m : LineTestMode) :
    { s.dropLineTest with transmitter := { s.dropLineTest.transmitter with testMode := m } }.restartReceiver =
      { s with
        transmitter :=
          { s.transmitter with
            state := .idle, report := none, current := none, backoffSlots := 0, stuckTimer := 0
            readBack := .matched 0, testMode := m }
        receiver :=
          { s.receiver with
            parser := if s.station.supplyMode = .mains ∧ m ≠ .off then .waitGap else .off
            gapTimer := 0, frame := [], charInProgress := false } } := by
  have hon : { s.dropLineTest with transmitter := { s.dropLineTest.transmitter with testMode := m } }.receiverOn =
      decide (s.station.supplyMode = .mains ∧ m ≠ .off) := State.receiverOn_of_unconfigured hs
  rw [State.restartReceiver_eq, hon]
  by_cases h : s.station.supplyMode = .mains ∧ m ≠ .off
  · rw [decide_eq_true h, if_pos h]
    rfl
  · rw [decide_eq_false h, if_neg h]
    rfl

/-- R131: with both slots empty the transmitter is IDLE and its timers stand at 0. -/
theorem TransmitterOk.idle_of_empty {t : Transmitter} (h : TransmitterOk t) (hr : t.report = none)
    (hn : t.notice = none) : t.state = .idle ∧ t.current = none ∧ t.backoffSlots = 0 ∧ t.stuckTimer = 0 := by
  have hcurrent : t.current = none := by
    rcases hc : t.current with _ | _ | _
    · rfl
    · simpa [hr] using h.reportCurrent hc
    · simpa [hn] using h.noticeCurrent hc
  have hidle := h.idle.mpr hcurrent
  exact ⟨hidle, hcurrent, h.timers.backoff.2 (by simp [hidle]), h.timers.stuck.2 (by simp [hidle])⟩

/-- R137, R149: the backoff of a Line Test newly queued. -/
theorem sendTestEffect_of_empty (hmode : s.transmitter.testMode ≠ .off) (hr : s.transmitter.report = none)
    (hq : TransmitterOk s.transmitter) (hn : s.transmitter.notice = none) :
    ∃ y : Transmitter, sendTestEffect s = ({ s with transmitter := y }, respond .ok []) ∧
      y = { s.transmitter with
            state := y.state, current := some .report, backoffSlots := y.backoffSlots, stuckTimer := 0
            testSequence := (s.transmitter.testSequence + 1) % 65536
            report :=
              some
                { content := .lineTest s.transmitter.testSequence, attempts := 0, expired := false
                  stuckReported := false, seed := s.seedNow } } ∧
      (s.receiver.gapTimer = 4 → y.state = .backoff ∧ y.backoffSlots = s.seedNow % 8) ∧
      (s.receiver.gapTimer ≠ 4 → y.state = .waitIdle ∧ y.backoffSlots = 0) := by
  obtain ⟨hidle, hcurrent, hslots, htimer⟩ := hq.idle_of_empty hr hn
  rw [sendTestEffect, if_neg (by simp [hmode, hr]), State.queueReport, Transmitter.notCurrent,
    if_neg (by simp [hcurrent]), State.chooseCurrent_of_wanted (slot := .report) (by simp [hidle])
    (by simp [Transmitter.wanted]) (by simp [hcurrent])]
  by_cases hgap : s.receiver.gapTimer = 4
  · rw [State.enterWaitIdle_of_gap (by exact hgap)]
    refine ⟨_, rfl, ?_, fun _ => ⟨rfl, ?_⟩, fun h => absurd hgap h⟩
    · rfl
    · simp [backoffOf, State.backoffAddress, Transmitter.currentAttempts, Transmitter.currentSeed, contentionWindow,
        State.seedNow]
  · rw [State.enterWaitIdle_of_noGap (by exact hgap) (by simp [htimer, stuckLimit])]
    refine ⟨_, rfl, ?_, fun h => absurd h hgap, fun _ => ⟨rfl, rfl⟩⟩
    · simp [htimer, State.seedNow]

/-- Settles O46: LINE TEST MODE by its octet, SEND TEST by mode, slot and gap timer. -/
theorem lineTestCommands : Obligations.LineTestCommands := by
  intro s mode m hopen hs hq x
  obtain ⟨ht, hslots⟩ := (lineQueueOk_iff s).mp hq
  rw [exec_of_hostEffect (c := .lineTestMode mode) (e := unconfiguredOnly 0 (lineTestModeEffect mode)) rfl,
    exec_of_hostEffect (c := .sendTest) (e := unconfiguredOnly 0 sendTestEffect) rfl]
  refine ⟨fun habove => ?_, fun hcode => ⟨fun heq => ?_, fun hne => ?_⟩, fun hrefused => ?_, fun hmode hr => ?_⟩
  · refine takeCommand_of_statusOnly hopen ?_
    rw [unconfiguredOnly_of_unconfigured hs, lineTestModeEffect, lineTestModeOfCode_of_above habove]
  · refine takeCommand_of_respond hopen ?_
    rw [unconfiguredOnly_of_unconfigured hs, lineTestModeEffect_of_code (lineTestModeOfCode_of_code hcode), if_pos heq]
  · refine takeCommand_of_respond hopen ?_
    rw [unconfiguredOnly_of_unconfigured hs, lineTestModeEffect_of_code (lineTestModeOfCode_of_code hcode), if_neg hne,
      State.setTestMode_eq hs]
  · refine takeCommand_of_statusOnly hopen ?_
    rw [unconfiguredOnly_of_unconfigured hs, sendTestEffect, if_pos hrefused]
  · obtain ⟨y, heffect, hy, hbackoff, hwait⟩ := sendTestEffect_of_empty hmode hr ht (hslots.noticeKind hs)
    exact ⟨y, takeCommand_of_respond hopen ((unconfiguredOnly_of_unconfigured hs).trans heffect), hy, hbackoff, hwait⟩

end Sys2Proof.Machine

/-! SUPPORT. The supply modes: the entry to BACKUP and the return to MAINS written out (R145, R173, R174). Settles O50. -/

namespace Sys2Proof.Machine

variable {s : State}

/-! ### The entry to BACKUP -/

theorem State.withdrawExpired_of_expired {f : ReportSlot} (hf : s.transmitter.report = some f) (he : f.expired = true) :
    s.withdrawExpired = s.settleClosedReport .stale := by
  rw [State.withdrawExpired, if_pos (by simp [hf, he])]

theorem State.withdrawExpired_of_not_expired (h : ∀ f, s.transmitter.report = some f → f.expired = false) :
    s.withdrawExpired = s := by
  refine if_neg fun he => ?_
  obtain ⟨f, hf, hexpired⟩ := Option.map_eq_some_iff.mp he
  simp [h f hf] at hexpired

theorem State.withdrawExpired_eq (s : State) : s.withdrawExpired = { s with windows := s.withdrawExpired.windows } := by
  unfold State.withdrawExpired
  split <;> rfl

/-- R145, R173, R174: the state after the entry to BACKUP, block by block. -/
theorem State.enterBackup_eq (s : State) :
    s.enterBackup =
      { s with
        station := s.enterBackup.station
        converter := { s.converter with backupCount := 0 }
        receiver := s.receiver.turnedOff
        transmitter := s.transmitter.enterBackup
        windows := s.withdrawExpired.windows
        causes := s.causes.raise .supplyChange } := by
  unfold State.enterBackup State.quietNoticeDropped
  rw [State.withdrawExpired_eq]
  dsimp only
  split
  · rw [State.endOfQuietNotice_eq]
    rfl
  · rfl

theorem Transmitter.announcesQuiet_iff (t : Transmitter) :
    t.announcesQuiet = true ↔ t.followOn = some .quiet ∨ ∃ f, t.notice = some f ∧ f.notice.announced = .quiet := by
  simp [Transmitter.announcesQuiet]

/-- R145: the report that stays in its slot, by what the slot holds. -/
theorem Transmitter.reportInBackup_eq (t : Transmitter) :
    t.reportInBackup =
      match t.report with
      | some f => (match f.content with | .windowReport _ => if f.expired then none else some f | .lineTest _ => none)
      | none => none := by
  unfold Transmitter.reportInBackup
  rcases t.report with _ | ⟨content, attempts, seed, expired, stuck⟩
  · rfl
  · cases content <;> cases expired <;> rfl

/-! ### The return to MAINS -/

/-- R113, R173: the state after the return to MAINS, the receiver on where station state or line-test mode has it on. -/
theorem State.returnToMains_eq (s : State) :
    s.returnToMains =
      { s with
        station := { s.station with supplyMode := .mains, recoveryCount := 0 }
        receiver :=
          { s.receiver with
            parser :=
              if s.station.state ≠ .unconfigured ∨ s.transmitter.testMode ≠ .off then .waitGap else .off
            gapTimer := 0, frame := [], charInProgress := false }
        transmitter :=
          { s.transmitter with
            stuckTimer :=
              if s.station.state ≠ .unconfigured ∨ s.transmitter.testMode ≠ .off then 0
              else s.transmitter.stuckTimer }
        causes := s.causes.raise .supplyChange } := by
  have hon : ({ s with station := { s.station with supplyMode := .mains, recoveryCount := 0 } }.raise
      .supplyChange).receiverOn = decide (s.station.state ≠ .unconfigured ∨ s.transmitter.testMode ≠ .off) := by
    rw [Bool.eq_iff_iff, State.receiverOn_iff]
    simp
  rw [State.returnToMains, State.restartReceiver_eq, hon]
  by_cases h : s.station.state ≠ .unconfigured ∨ s.transmitter.testMode ≠ .off
  · rw [decide_eq_true h, if_pos h, if_pos h]
    rfl
  · rw [decide_eq_false h, if_neg h, if_neg h]
    rfl

theorem State.recoveryEnds_iff (s : State) :
    s.recoveryEnds = true ↔ s.station.supplyMode = .recovering ∧ s.station.recoveryCount = 0 := by
  simp [State.recoveryEnds]

theorem exec_recoveryEnd (hr : s.rstnHigh = true) :
    exec .recoveryEnd s = .next (if s.recoveryEnds then s.returnToMains else s) := by
  rw [exec_of_eventEffect (c := .recoveryEnd) rfl, takeEvent_of_high hr]

/-- Settles O50: the entry to BACKUP by queue and notice, the two ways out of it, and RECOVERY_END. -/
theorem supplyModes : Obligations.SupplyModes := by
  intro s hr x keeps queued quietDropped raises onMains
  have hkeeps : x.reportInBackup = keeps := x.reportInBackup_eq
  have hraises : raises (s.causes.raise .supplyChange) := ⟨s.causes.flagOf_raised .supplyChange, rfl, rfl, rfl⟩
  refine ⟨fun hp hm => ?falling, fun hp hm hs => ?recovering, fun hp hm hs => ?toMains, fun hm hc => ?ends, fun h => ?stays⟩
  case falling =>
    refine ⟨x.enterBackup, { s with pfailnHigh := false }.withdrawExpired.windows, s.enterBackup.station.state, _, hraises, ?_, ?_⟩
    · rw [exec_pfailnFalling_of_high hr hp, if_neg hm, State.enterBackup_eq, enterBackup_station, enterBackup_station]
      rfl
    have hqueued : queued ↔ (x.report.isSome || x.notice.isSome) = true := by simp [queued]
    have hquiet : quietDropped ↔ x.announcesQuiet = true := x.announcesQuiet_iff.symm
    rw [Transmitter.enterBackup_eq, hkeeps, enterBackup_station]
    refine ⟨rfl, rfl, rfl, rfl, rfl, rfl, rfl, fun hsome => ?_, fun hnone => ?_, fun hq => if_pos (hqueued.mp hq),
      fun hq => if_neg fun h => hq (hqueued.mpr h), fun hq hs => if_pos ⟨hquiet.mp hq, hs⟩,
      fun hq => if_neg fun h => hq.elim (· (hquiet.mpr h.1)) (· h.2), fun ⟨f, hf, he⟩ => ?_, fun h => ?_⟩
    · have hsome := Option.isSome_iff_ne_none.mpr hsome
      exact ⟨if_pos hsome, if_pos hsome⟩
    · rw [hnone]
      exact ⟨rfl, rfl⟩
    · rw [State.withdrawExpired_of_expired (by exact hf) he]
      rfl
    · rw [State.withdrawExpired_of_not_expired (by exact h)]
  case recovering =>
    rw [exec_pfailnRising_of_high hr hp, if_pos hm, State.leaveBackup, if_neg hs]
  case toMains =>
    refine ⟨_, hraises, ?_⟩
    rw [exec_pfailnRising_of_high hr hp, if_pos hm, State.leaveBackup, if_pos hs, State.returnToMains_eq]
  case ends =>
    refine ⟨_, hraises, ?_⟩
    rw [exec_recoveryEnd hr, if_pos (s.recoveryEnds_iff.mpr ⟨hm, hc⟩), State.returnToMains_eq]
  case stays =>
    rw [exec_recoveryEnd hr, if_neg fun he => h (s.recoveryEnds_iff.mp he)]

end Sys2Proof.Machine

/-! SUPPORT. A frame entering its slot (R132 to R137, R143): where it becomes current at once and where it waits behind another.
QUIET and SPEAK (R169 to R171). Settles O48. -/

namespace Sys2Proof.Machine

variable {s : State}

/-! ### A frame enters its slot -/

theorem State.reportStuck_eq (s : State) :
    s.reportStuck = { s with transmitter := s.reportStuck.transmitter, causes := s.reportStuck.causes } := by
  unfold State.reportStuck
  split <;> rfl

theorem State.enterWaitIdle_eq (s : State) :
    s.enterWaitIdle = { s with transmitter := s.enterWaitIdle.transmitter, causes := s.enterWaitIdle.causes } := by
  unfold State.enterWaitIdle
  split
  · rfl
  · exact State.reportStuck_eq _

/-- R137: on an idle line the frame goes to BACKOFF with its count of slots. -/
theorem State.enterWaitIdle_backoff (h : s.receiver.gapTimer = 4) :
    s.enterWaitIdle.transmitter =
      { s.transmitter with
        state := .backoff
        backoffSlots := backoffOf s.backoffAddress s.transmitter.currentAttempts s.transmitter.currentSeed
        stuckTimer := 0 } := by
  rw [State.enterWaitIdle_of_gap h]
  rfl

/-- R137, R143: a frame not yet reported that goes to WAIT_IDLE on a line stuck for 2 s is reported at once. -/
theorem State.enterWaitIdle_of_stuck (h : s.receiver.gapTimer ≠ 4) (ht : stuckLimit ≤ s.transmitter.stuckTimer)
    (hr : s.transmitter.currentStuckReported = false) :
    s.enterWaitIdle =
      { s with
        transmitter :=
          { s.transmitter.markStuckReported with state := .waitIdle, backoffSlots := 0, lastFailure := .lineStuck }
        causes := s.causes.raise .txFailure } := by
  rw [State.enterWaitIdle, if_neg h]
  refine (State.reportStuck_of_unreported ?_ ?_).trans ?_
  · exact ht
  · exact hr
  unfold Transmitter.markStuckReported
  dsimp only
  split <;> rfl

theorem Transmitter.notCurrent_current {t : Transmitter} {slot : Slot} (hs : t.state ≠ .sending) :
    (t.notCurrent slot).current ≠ some slot := by
  unfold Transmitter.notCurrent
  split
  · simp
  · next h => exact fun hc => h ⟨hc, hs⟩

theorem Transmitter.notCurrent_of_other {t : Transmitter} {slot : Slot} (h : t.state = .sending ∨ t.current ≠ some slot) :
    t.notCurrent slot = t := by
  refine if_neg fun hc => ?_
  rcases h with h | h
  · exact hc.2 h
  · exact h hc.1

/-- R134: a notice that does not go first waits in its slot. -/
theorem State.requestNotice_behind {a : NoticeState} (hm : s.station.supplyMode = .mains)
    (hw : ¬(s.transmitter.state = .sending ∧ s.transmitter.current = some .notice))
    (h : s.transmitter.state = .sending ∨ s.transmitter.report ≠ none ∧ s.transmitter.current = some .report) :
    s.requestNotice a = { s with transmitter := { s.transmitter with notice := some (s.newNotice a) } } := by
  have hkept : s.transmitter.notCurrent .notice = s.transmitter :=
    Transmitter.notCurrent_of_other (h.imp_right fun hr => by simp [hr.2])
  rw [State.requestNotice, if_neg (by simp [hm]), if_neg (by simpa [Transmitter.isSending] using hw), hkept]
  rcases h with hs | ⟨hr, hc⟩
  · exact State.chooseCurrent_sending _ hs
  · by_cases hs : s.transmitter.state = .sending
    · exact State.chooseCurrent_sending _ hs
    · have hwanted : Transmitter.wanted { s.transmitter with notice := some (s.newNotice a) } = some .report :=
        Transmitter.wanted_report.mpr (Option.isSome_iff_ne_none.mpr hr)
      rw [State.chooseCurrent, if_neg hs, hwanted, if_neg (by simp), if_pos hc.symm]

/-- R134: a notice that goes first becomes current. -/
theorem State.requestNotice_first {a : NoticeState} (hm : s.station.supplyMode = .mains)
    (hs : s.transmitter.state ≠ .sending) (hr : s.transmitter.report = none) :
    s.requestNotice a =
      { s with
        transmitter :=
          { s.transmitter with notice := some (s.newNotice a), current := some .notice } }.enterWaitIdle := by
  rw [State.requestNotice, if_neg (by simp [hm]), if_neg (by simp [Transmitter.isSending, hs])]
  refine (State.chooseCurrent_of_wanted (slot := .notice) ?_ ?_ ?_).trans ?_
  · simpa using hs
  · exact Transmitter.wanted_notice.mpr ⟨by simpa using hr, rfl⟩
  · exact Transmitter.notCurrent_current hs
  unfold Transmitter.notCurrent
  split <;> rfl

/-- R146: on backup supply or in recovery the notice is dropped. -/
theorem State.requestNotice_dropped {a : NoticeState} (hm : s.station.supplyMode ≠ .mains) :
    s.requestNotice a =
      { s with transmitter := { s.transmitter with lastFailure := .abortedBySupply } }.noticeEnded a := if_pos hm

/-- R134: while a notice is in transmission the new one is recorded as its follow-on. -/
theorem State.requestNotice_followOn {a : NoticeState} (hm : s.station.supplyMode = .mains)
    (hs : s.transmitter.state = .sending) (hc : s.transmitter.current = some .notice) :
    s.requestNotice a = { s with transmitter := { s.transmitter with followOn := some a } } := by
  rw [State.requestNotice, if_neg (by simp [hm]), if_pos (by simp [Transmitter.isSending, hs, hc])]

/-! ### QUIET and SPEAK -/

/-- Settles O48: a request by supply mode and by what the transmitter holds, for both commands; then the two commands. -/
theorem quietAndSpeak : Obligations.QuietAndSpeak := by
  intro s hopen hq x requests
  obtain ⟨ht, -⟩ := (lineQueueOk_iff s).mp hq
  have hrequests {command : Instr} {entered : StationState} {announced : NoticeState}
      (he : exec command s = .next (((s.enter entered).requestNotice announced).answered .ok []))
      (hentered : announced = .quiet → entered = .quieting) : requests command entered announced := by
    refine ⟨fun hm => ?dropped, fun hm hs hc => ?followOn, fun hm hw => ?queued⟩
    case dropped =>
      rw [he, State.requestNotice_dropped (by exact hm), State.noticeEnded]
      by_cases ha : announced = .quiet
      · rw [if_pos ha, if_pos ha, State.endOfQuietNotice_eq, hentered ha]
        rfl
      · rw [if_neg ha, if_neg ha]
        rfl
    case followOn =>
      rw [he, State.requestNotice_followOn (by exact hm) (by exact hs) (by exact hc)]
      rfl
    case queued =>
      by_cases hbehind : x.state = .sending ∨ x.report ≠ none
      case pos =>
        have hcurrent : x.state ≠ .sending → x.current = some .report := fun hs =>
          (ht.choice hs).trans (Transmitter.wanted_report.mpr
            (Option.isSome_iff_ne_none.mpr (hbehind.resolve_left hs)))
        refine ⟨{ x with notice := some ((s.enter entered).newNotice announced) }, s.causes,
          (s.enter entered).newNotice announced, ?_, rfl, rfl, rfl, rfl, rfl, rfl, rfl, rfl, rfl, rfl, rfl, rfl, rfl, rfl,
          rfl, fun hs => ⟨hs, rfl⟩, fun hs _ => ⟨hcurrent hs, rfl, rfl⟩, fun hs hr => absurd hr (hbehind.resolve_left hs),
          fun _ => ⟨rfl, rfl, rfl⟩, fun _ _ => rfl, rfl, rfl, rfl⟩
        rw [he, State.requestNotice_behind (by exact hm) (by exact hw) (by
          by_cases hs : x.state = .sending
          · exact .inl hs
          · exact .inr ⟨hbehind.resolve_left hs, hcurrent hs⟩)]
        rfl
      case neg =>
        obtain ⟨hs, hr⟩ := not_or.mp hbehind
        rw [not_not] at hr
        rw [he, State.requestNotice_first (by exact hm) (by exact hs) (by exact hr)]
        by_cases hgap : s.receiver.gapTimer = 4
        · rw [State.enterWaitIdle_of_gap (by exact hgap)]
          exact ⟨_, _, _, rfl, rfl, rfl, rfl, rfl, rfl, rfl, rfl, rfl, rfl, rfl, rfl, rfl, rfl, rfl, rfl,
            fun h => absurd h hs, fun _ h => absurd hr h, fun _ _ => ⟨rfl, fun h => absurd hgap h, fun _ => ⟨rfl, rfl⟩⟩,
            fun _ => ⟨rfl, rfl, rfl⟩, fun _ _ => rfl, rfl, rfl, rfl⟩
        by_cases hbelow : x.stuckTimer < 15360
        · rw [State.enterWaitIdle_of_noGap (by exact hgap) (by exact hbelow)]
          exact ⟨_, _, _, rfl, rfl, rfl, rfl, rfl, rfl, rfl, rfl, rfl, rfl, rfl, rfl, rfl, rfl, rfl, rfl,
            fun h => absurd h hs, fun _ h => absurd hr h, fun _ _ => ⟨rfl, fun _ => rfl, fun h => absurd h hgap⟩,
            fun _ => ⟨rfl, rfl, rfl⟩, fun _ _ => rfl, rfl, rfl, rfl⟩
        · rw [State.enterWaitIdle_of_stuck (by exact hgap) (by exact Nat.not_lt.mp hbelow) rfl]
          refine ⟨_, _, _, rfl, rfl, rfl, rfl, rfl, rfl, rfl, rfl, rfl, rfl, rfl, rfl, rfl, rfl, rfl, rfl,
            fun h => absurd h hs, fun _ h => absurd hr h, fun _ _ => ⟨rfl, fun _ => rfl, fun h => absurd h hgap⟩,
            fun h => absurd h hbelow, fun c hc => ?_, rfl, rfl, rfl⟩
          refine (s.causes.flagOf_raised .txFailure c).trans ?_
          rw [decide_eq_false hc, Bool.false_or]
  have hquiet := exec_of_hostEffect (c := .quiet) (e := afterJoiningOnly 0 quietEffect) rfl s
  have hspeak := exec_of_hostEffect (c := .speak) (e := commissionedOnly 0 speakEffect) rfl s
  rw [hquiet, hspeak]
  refine ⟨fun hs => ?_, fun hs => ?_, fun hs => hrequests ?_ fun _ => rfl, fun hs => hrequests ?_ nofun, fun hs => ?_,
    fun hs => ?_⟩
  · exact takeCommand_of_statusOnly hopen (afterJoiningOnly_of_not_past hs)
  · exact takeCommand_of_statusOnly hopen (commissionedOnly_of_unconfigured hs)
  · rw [hquiet]
    refine takeCommand_of_respond hopen ?_
    rw [afterJoiningOnly_of_past (by rcases hs with hs | hs <;> simp [hs]) (by rcases hs with hs | hs <;> simp [hs]),
      quietEffect, if_neg (by rcases hs with hs | hs <;> simp [hs])]
  · rw [hspeak]
    refine takeCommand_of_respond hopen ?_
    rw [commissionedOnly_of_commissioned (by rcases hs with hs | hs <;> simp [hs]), speakEffect, if_pos hs]
  · refine takeCommand_of_respond hopen ?_
    rw [afterJoiningOnly_of_past (by simp [hs]) (by simp [hs]), quietEffect, if_pos hs]
  · refine takeCommand_of_respond hopen ?_
    rw [commissionedOnly_of_commissioned (by rcases hs with hs | hs <;> simp [hs]), speakEffect,
      if_neg (by rcases hs with hs | hs <;> simp [hs])]

end Sys2Proof.Machine

/-! SUPPORT. COMMISSION (R166, R167): the digest's octets, the line turned to service, and the JOINING notice. Settles O47. -/

namespace Sys2Proof.Machine

variable {s : State}

theorem SlotMap.octets_flatMap (m : SlotMap) :
    ([0, 1, 2, 3, 4, 5].flatMap fun n => Machine.octets 2 (m.item n).toNat) = m.octets := by
  simp [SlotMap.octets, SlotMap.item]

theorem CircuitsItem.includes_heat (c : CircuitsItem) : c.includes .heat = decide (c ≠ .cool) := by cases c <;> rfl

theorem CircuitsItem.includes_cool (c : CircuitsItem) : c.includes .cool = decide (c ≠ .heat) := by cases c <;> rfl

theorem State.complete_iff (s : State) :
    s.complete = true ↔ s.timebase.clockValid = true ∧ s.items.stationAddress.isSome = true ∧
      s.items.role.isSome = true ∧ s.items.windowLength.isSome = true := by
  simp [State.complete, and_assoc]

/-- R113, R148, R167: the line of a station that has just entered service. -/
theorem State.commissionLine_eq (hs : s.station.state ≠ .unconfigured) :
    s.commissionLine =
      { s with
        transmitter :=
          { s.transmitter with
            state := .idle, report := none, current := none, backoffSlots := 0, stuckTimer := 0
            readBack := .matched 0, testMode := .off }
        receiver :=
          { s.receiver with
            parser := if s.station.supplyMode = .mains then .waitGap else .off
            gapTimer := 0, frame := [], charInProgress := false } } := by
  have hon : { s.dropLineTest with transmitter := { s.dropLineTest.transmitter with testMode := .off } }.receiverOn =
      decide (s.station.supplyMode = .mains) := by
    rw [Bool.eq_iff_iff, State.receiverOn_iff]
    simp [hs]
  rw [State.commissionLine, State.restartReceiver_eq]
  dsimp only
  rw [hon]
  by_cases h : s.station.supplyMode = .mains
  · rw [decide_eq_true h, if_pos h]
    rfl
  · rw [decide_eq_false h, if_neg h]
    rfl

/-- R129: the octets the settings digest covers. -/
theorem digestInput_eq (i : Items) (c : Calendar) :
    digestInput i c =
      octets 1 i.length.minutes ++ octets 2 i.grace ++ octets 1 c.epochWeekday ++ octets 1 c.holidays.length
        ++ c.holidays.flatMap (octets 2)
        ++ ([0, 1, 2, 3, 4, 5].flatMap fun n => octets 2 (c.weekday.item n).toNat)
        ++ ([0, 1, 2, 3, 4, 5].flatMap fun n => octets 2 (c.weekend.item n).toNat) := by
  rw [SlotMap.octets_flatMap, SlotMap.octets_flatMap, List.flatMap_def]
  rfl

/-- R134, R135: the notice of a station whose clock, address and role are set. -/
theorem State.newNotice_of_complete {a : NoticeState} {address : Nat} {role : Role} (hv : s.timebase.clockValid = true)
    (ha : s.items.stationAddress = some address) (hr : s.items.role = some role) :
    s.newNotice a =
      { notice :=
          { sender := address, roleCode := role.code, announced := a
            weight := if role = .common then 0 else s.items.weight
            digest := s.station.digest, expected := s.items.expected, second := 0 }
        attempts := 0, seed := s.timebase.secondOfDay % 256, stuckReported := false } := by
  rw [State.newNotice, State.roleCode, State.carriedWeight, State.seedNow, Items.address, ha, hr, if_pos hv]
  simp

/-- Settles O47: INCOMPLETE for a missing item; otherwise the blocks, the line and the JOINING notice by supply mode. -/
theorem commissionEntersService : Obligations.CommissionEntersService := by
  intro s hopen hs b
  rw [exec_of_hostEffect (e := unconfiguredOnly 0 commissionEffect) rfl]
  refine ⟨fun hmissing => ?incomplete, fun address role l hvalid haddress hrole hlength => ?complete⟩
  case incomplete =>
    refine takeCommand_of_statusOnly hopen ?_
    rw [unconfiguredOnly_of_unconfigured hs, commissionEffect, if_neg]
    rw [State.complete_iff]
    rintro ⟨hv, ha, hr, hl⟩
    rcases hmissing with h | h | h | h
    · exact absurd hv (by simpa using h)
    · simp [h] at ha
    · simp [h] at hr
    · simp [h] at hl
  case complete =>
    intro seconds windows index grace heat cool digest part entry meter mains notice
    have hcomplete : s.complete = true :=
      s.complete_iff.mpr ⟨hvalid, by rw [haddress]; rfl, by rw [hrole]; rfl, by rw [hlength]; rfl⟩
    have hl : s.items.length = l := by rw [Items.length, hlength]; rfl
    have hitems : s.items.clampGrace = { s.items with grace := grace } := by rw [Items.clampGrace, hl]; rfl
    have hl' : { s.items with grace := grace }.length = l := hl
    have hdigest : settingsDigest { s.items with grace := grace } s.calendar = digest := by
      rw [settingsDigest, digestInput_eq, hl']
    refine takeCommand_of_respond hopen ?_
    rw [unconfiguredOnly_of_unconfigured hs, commissionEffect, if_pos hcomplete,
      State.commissionLine_eq (by simp [State.commissionBlocks])]
    have hblocks : s.commissionBlocks =
        { s with
          items := { s.items with grace := grace }
          timebase :=
            { b with
              windowInDay := b.secondOfDay / seconds, secondsInWindow := b.secondOfDay % seconds
              cyclePhase := b.secondOfDay % 2, graceArmed := false, boundaryOn := true }
          station := { s.station with state := .joining, commissioned := true, digest := digest, skew := .noSkew }
          windows :=
            { graceEntry := none, openEntry := some (entry index ⟨part heat, part cool⟩)
              aheadEntry := some (entry ((index + 1) % (65536 * windows)) ⟨part false, part false⟩)
              closedReport := none }
          contexts := Contexts.commission b.day
          meters := ⟨meter s.meters.heat heat, meter s.meters.cool cool⟩
          converter := { s.converter with state := .restarting, restartCount := 1, backupCount := 0 } } := by
      simp only [State.commissionBlocks, hitems, hl', hdigest, CircuitsItem.includes_heat, CircuitsItem.includes_cool,
        WindowTable.commission]
      rfl
    rw [hblocks]
    by_cases hm : s.station.supplyMode = .mains
    · rw [State.requestNotice_first (by exact hm) (by exact nofun) rfl,
        State.enterWaitIdle_of_noGap (by exact nofun) (by exact Nat.zero_lt_succ _)]
      simp only [mains, hm, if_true]
      rw [State.newNotice_of_complete (by exact hvalid) (by exact haddress) (by exact hrole)]
      cases role <;> rfl
    · rw [State.requestNotice_dropped (by exact hm)]
      simp only [mains, hm, if_false]
      rfl

end Sys2Proof.Machine

/-! SUPPORT. The window boundary (R28, R46 to R51) with its Window Report and its periodic notice (R133 to R137). Settles O25 and
O26. -/

namespace Sys2Proof.Machine

variable {s : State}

/-! ### A Window Report enters its slot -/

/-- R132, R133, R137: the transmitter `x` is that of `s` with a Window Report newly queued. -/
structure ReportQueued (s : State) (w : WindowReport) (x : Transmitter) : Prop where
  slot : ∃ k, x.report = some k ∧ k.content = .windowReport w ∧ k.attempts = 0 ∧ k.seed = s.seedNow ∧ k.expired = false
  sending : s.transmitter.state = .sending → x.state = .sending ∧ x.current = s.transmitter.current
  resting : s.transmitter.state ≠ .sending → x.current = some .report ∧ (s.receiver.gapTimer ≠ 4 → x.state = .waitIdle) ∧
    (s.receiver.gapTimer = 4 → x.state = .backoff ∧ x.backoffSlots = (5 * s.items.address + s.seedNow) % 8)
  notice : x.notice = s.transmitter.notice
  kept : x.followOn = s.transmitter.followOn ∧ x.framesSent = s.transmitter.framesSent ∧
    x.collisions = s.transmitter.collisions ∧ x.giveUps = s.transmitter.giveUps ∧ x.testMode = s.transmitter.testMode ∧
    x.testSequence = s.transmitter.testSequence

/-- R143: a stuck report leaves the notice slot as it is. -/
theorem State.enterWaitIdle_notice_of_report (h : s.transmitter.current = some .report) :
    s.enterWaitIdle.transmitter.notice = s.transmitter.notice := by
  unfold State.enterWaitIdle
  split
  · rfl
  · unfold State.reportStuck
    split
    · simp [Transmitter.markStuckReported, h]
    · rfl

/-- Entering WAIT_IDLE changes of the report its stuck-reported mark alone. -/
theorem State.enterWaitIdle_slot {r : ReportSlot} (hr : s.transmitter.report = some r) :
    ∃ k, s.enterWaitIdle.transmitter.report = some k ∧ k.content = r.content ∧ k.attempts = r.attempts ∧
      k.seed = r.seed ∧ k.expired = r.expired := by
  obtain ⟨k, hk⟩ := Option.isSome_iff_exists.mp
    (show s.enterWaitIdle.transmitter.report.isSome = true by simp [hr])
  obtain ⟨q, hq, hcontent, hattempts, hseed, hexpired⟩ := s.enterWaitIdle_report k hk
  rw [hr, Option.some.injEq] at hq
  subst hq
  exact ⟨k, hk, hcontent.symm, hattempts.symm, hseed.symm, hexpired.symm⟩

theorem State.queueReport_of_sending {c : ReportContent} (hs : s.transmitter.state = .sending) :
    s.queueReport c =
      { s with
        transmitter :=
          { s.transmitter with
            report := some { content := c, attempts := 0, seed := s.seedNow, expired := false, stuckReported := false } } } := by
  rw [State.queueReport, Transmitter.notCurrent_of_other (.inl hs)]
  exact State.chooseCurrent_sending _ hs

theorem State.queueReport_of_resting {c : ReportContent} (hs : s.transmitter.state ≠ .sending) :
    s.queueReport c =
      { s with
        transmitter :=
          { s.transmitter with
            report := some { content := c, attempts := 0, seed := s.seedNow, expired := false, stuckReported := false }
            current := some .report } }.enterWaitIdle := by
  refine (State.chooseCurrent_of_wanted (slot := .report) ?_ ?_ ?_).trans ?_
  · simpa using hs
  · exact Transmitter.wanted_report.mpr rfl
  · exact Transmitter.notCurrent_current hs
  unfold Transmitter.notCurrent
  split <;> rfl

theorem State.queueReport_queued (s : State) (w : WindowReport) :
    ∃ x u, s.queueReport (.windowReport w) = { s with transmitter := x, causes := u } ∧ ReportQueued s w x := by
  by_cases hs : s.transmitter.state = .sending
  · exact ⟨_, _, State.queueReport_of_sending hs, ⟨_, rfl, rfl, rfl, rfl, rfl⟩, fun _ => ⟨hs, rfl⟩, fun h => absurd hs h, rfl,
      rfl, rfl, rfl, rfl, rfl, rfl⟩
  · rw [State.queueReport_of_resting hs]
    refine ⟨_, _, State.enterWaitIdle_eq _,
      State.enterWaitIdle_slot (r := ⟨.windowReport w, 0, s.seedNow, false, false⟩) rfl, fun h => absurd h hs, fun _ => ⟨by simp, fun h => ?_, fun h => ?_⟩,
      State.enterWaitIdle_notice_of_report rfl, by simp⟩
    · rw [State.enterWaitIdle_state, if_neg (by exact h)]
    · rw [State.enterWaitIdle_backoff (by exact h)]
      exact ⟨rfl, rfl⟩

/-! ### The periodic notice behind a report -/

/-- R136: whether the boundary requests its periodic notice. -/
def State.requestsPeriodic (s : State) (running : Bool) : Prop :=
  running = true ∧ s.station.supplyMode = .mains ∧ s.periodicMatches = true

theorem State.periodicNotice_of_not_requested {running : Bool} (h : ¬s.requestsPeriodic running) :
    s.periodicNotice running = s := by
  refine if_neg fun hb => h ?_
  simpa [State.requestsPeriodic, and_assoc] using hb

/-- R134 to R136: with the report ahead of it the periodic notice enters its slot, or is the follow-on of a notice in
transmission. -/
theorem State.periodicNotice_behind {running : Bool} (hreq : s.requestsPeriodic running)
    (h : s.transmitter.state = .sending ∨ s.transmitter.report ≠ none ∧ s.transmitter.current = some .report) :
    (¬(s.transmitter.state = .sending ∧ s.transmitter.current = some .notice) →
      s.periodicNotice running = { s with transmitter := { s.transmitter with notice := some (s.newNotice .running) } }) ∧
    (s.transmitter.state = .sending ∧ s.transmitter.current = some .notice →
      s.periodicNotice running = { s with transmitter := { s.transmitter with followOn := some .running } }) := by
  obtain ⟨hrun, hm, hmatch⟩ := hreq
  rw [State.periodicNotice, if_pos (by simp [hrun, hm, hmatch])]
  exact ⟨fun hw => State.requestNotice_behind hm hw h, fun hw => State.requestNotice_followOn hm hw.1 hw.2⟩

theorem State.periodicNotice_eq_of_ahead (running : Bool)
    (h : s.transmitter.state = .sending ∨ s.transmitter.report ≠ none ∧ s.transmitter.current = some .report) :
    ∃ n f, s.periodicNotice running = { s with transmitter := { s.transmitter with notice := n, followOn := f } } := by
  by_cases hreq : s.requestsPeriodic running
  · obtain ⟨hqueued, hfollows⟩ := State.periodicNotice_behind hreq h
    by_cases hw : s.transmitter.state = .sending ∧ s.transmitter.current = some .notice
    · exact ⟨_, _, hfollows hw⟩
    · exact ⟨_, _, hqueued hw⟩
  · exact ⟨_, _, State.periodicNotice_of_not_requested hreq⟩

/-! ### The boundary -/

theorem Station.firstBoundary_eq (x : Station) :
    x.firstBoundary = { x with state := if x.state = .joining then .running else x.state } := by
  unfold Station.firstBoundary
  split <;> rfl

theorem Station.reports_iff (x : Station) :
    x.reports = true ↔ (x.state = .joining ∨ x.state = .running ∨ x.state = .quieting) ∧ x.supplyMode = .mains := by
  simp [Station.reports, or_assoc]

/-- R46 to R51: the state of a boundary but for what the transmitter does: the table moved, grace armed, JOINING left. -/
def State.afterMove (s : State) (e : WindowEntry) : State :=
  { s with
    timebase := { s.timebase with graceArmed := true, due := { s.timebase.due with windowBoundary := false } }
    station := s.station.firstBoundary
    windows :=
      s.windows.move { e.freeze s.items.length.seconds with reportStatus := s.station.boundaryStatus } s.items.length
    freeCount := if s.station.state = .joining then s.freeCount + 1 else s.freeCount }

theorem State.readsRunning_mains (hr : s.readsRunning = true) :
    s.station.state = .running ∨ s.station.state = .joining := by
  unfold State.readsRunning at hr
  split at hr
  · next h => exact .inl h
  · next h => exact .inr h
  all_goals cases hr

/-- R46 to R51: without a report the boundary does nothing to the transmitter. -/
theorem State.boundary_of_silent {e : WindowEntry} (he : s.windows.openEntry = some e) (hr : s.station.reports = false) :
    s.boundary = s.afterMove e := by
  have hnot : ¬(s.afterMove e).requestsPeriodic s.readsRunning := by
    rintro ⟨hrun, hm, -⟩
    have hreports := s.station.reports_iff.mpr
      ⟨s.readsRunning_mains hrun |>.elim (fun h => .inr (.inl h)) .inl, by simpa [State.afterMove, Station.firstBoundary_eq] using hm⟩
    simp [hr] at hreports
  rw [← State.periodicNotice_of_not_requested hnot]
  simp only [State.boundary, he, State.boundaryWindows, hr]
  rfl

/-- R46 to R51, R136: the report queued, and the periodic notice behind it. -/
theorem State.boundary_of_reports {e : WindowEntry} (he : s.windows.openEntry = some e) (hr : s.station.reports = true) :
    ∃ x u, ReportQueued s (s.reportOf (e.freeze s.items.length.seconds)) x ∧
      s.boundary = { s.afterMove e with transmitter := x, causes := u }.periodicNotice s.readsRunning := by
  obtain ⟨x, u, hqueue, hx⟩ := { s.afterMove e with station := s.station }.queueReport_queued
    (s.reportOf (e.freeze s.items.length.seconds))
  refine ⟨x, u, ⟨hx.slot, hx.sending, hx.resting, hx.notice, hx.kept⟩, ?_⟩
  have hboundary : s.boundary =
      { { s.afterMove e with station := s.station }.queueReport
          (.windowReport (s.reportOf (e.freeze s.items.length.seconds))) with
        station := s.station.firstBoundary }.periodicNotice s.readsRunning := by
    simp only [State.boundary, he, State.boundaryWindows, hr, if_true, State.queueReport_frame]
    rfl
  rw [hboundary, hqueue]
  rfl

theorem exec_windowBoundary (hr : s.rstnHigh = true) (hb : s.timebase.due.windowBoundary = true)
    (hc : s.timebase.due.cycleEvent = false) : exec .windowBoundary s = .next s.boundary := by
  rw [exec_of_eventEffect (c := .windowBoundary) rfl, takeEvent_of_high hr, if_pos (by simp [hb, hc])]

/-- What a Window Report queued at a boundary means for a notice behind it. -/
theorem ReportQueued.ahead {w : WindowReport} {x : Transmitter} (h : ReportQueued s w x) :
    x.state = .sending ∨ x.report ≠ none ∧ x.current = some .report := by
  by_cases hs : s.transmitter.state = .sending
  · exact .inl (h.sending hs).1
  · obtain ⟨k, hk, -⟩ := h.slot
    exact .inr ⟨by simp [hk], (h.resting hs).1⟩

/-- Settles O25: the silent boundary, and the one with a report, in whose slot the periodic notice changes nothing. -/
theorem windowBoundaryMoves : Obligations.WindowBoundaryMoves := by
  intro s e hr hb hc he seconds windows seed reports part quality fresh
  have hreports : s.station.reports = true ↔ reports := s.station.reports_iff
  rw [exec_windowBoundary hr hb hc]
  by_cases hrep : reports
  case neg =>
    have hsilent : s.station.reports = false := by simpa using mt hreports.mp hrep
    refine ⟨s.transmitter, s.causes, (s.afterMove e).freeCount, ?_, fun _ => ⟨rfl, rfl⟩, fun h => absurd h hrep,
      fun h => absurd h hrep, fun h => absurd h hrep, rfl, rfl, rfl, rfl, rfl, fun _ _ => rfl, rfl, rfl, rfl⟩
    rw [State.boundary_of_silent he hsilent, if_neg hrep, State.afterMove, Station.firstBoundary_eq,
      Station.boundaryStatus, hsilent]
    rfl
  case pos =>
    obtain ⟨x, u, hx, hboundary⟩ := State.boundary_of_reports he (hreports.mpr hrep)
    obtain ⟨n, f, hnotice⟩ := State.periodicNotice_eq_of_ahead (s := { s.afterMove e with transmitter := x, causes := u })
      s.readsRunning hx.ahead
    have heq := hboundary.trans hnotice
    have hraised : CauseUnit.RaisedFrom {.txFailure} s.causes u := by
      have h := s.boundary_raised .refl (Set.mem_singleton Cause.txFailure)
      rwa [heq] at h
    obtain ⟨k, hk, hcontent, hattempts, hseed, hexpired⟩ := hx.slot
    obtain ⟨-, hsent, hcollisions, hgiveUps, hmode, hsequence⟩ := hx.kept
    refine ⟨{ x with notice := n, followOn := f }, u, (s.afterMove e).freeCount, ?_, fun h => absurd hrep h,
      fun _ => ⟨k, hk, hattempts, hexpired, hseed, 0, ?_⟩, fun _ => hx.sending, fun _ => hx.resting, hsent, hcollisions,
      hgiveUps, hmode, hsequence, fun c hc => hraised.other hc, hraised.controls⟩
    · rw [heq, if_pos hrep, State.afterMove, Station.firstBoundary_eq, Station.boundaryStatus, hreports.mpr hrep]
      rfl
    · rw [hcontent, State.reportOf, State.roleCode, State.carriedWeight]
      rcases s.items.role with _ | _ | _ <;> rfl

/-- Settles O26: the periodic notice of a RUNNING station, behind its Window Report or as a follow-on. -/
theorem periodicNoticeAtBoundary : Obligations.PeriodicNoticeAtBoundary := by
  intro s e a hr hb hc he ha requested sending
  refine ⟨s.boundary, exec_windowBoundary hr hb hc, ?_⟩
  by_cases hrep : s.station.reports = true
  case neg =>
    have hnot : ¬requested := fun h => hrep (s.station.reports_iff.mpr ⟨.inr (.inl h.1), h.2.1⟩)
    rw [State.boundary_of_silent he (by simpa using hrep)]
    exact ⟨fun h => absurd h hnot, fun h => absurd h hnot, fun h => absurd h hnot, fun _ _ => ⟨rfl, rfl⟩⟩
  case pos =>
    obtain ⟨x, u, hx, hboundary⟩ := State.boundary_of_reports he hrep
    let v : State := { s.afterMove e with transmitter := x, causes := u }
    have hsending : x.state = .sending ∧ x.current = some .notice ↔ sending := by
      by_cases hs : s.transmitter.state = .sending
      · obtain ⟨hstate, hcurrent⟩ := hx.sending hs
        simp [sending, hs, hstate, hcurrent]
      · simp [sending, hs, (hx.resting hs).1]
    have hmatch : v.periodicMatches = true ↔ a.index % 16 = s.items.stationAddress.getD 0 % 16 := by
      have hopened : v.windows.openEntry = some a := ha
      rw [State.periodicMatches, hopened]
      exact beq_iff_eq
    have hmains : v.station.supplyMode = s.station.supplyMode := s.station.firstBoundary_kept.2.1
    rw [hboundary]
    by_cases hreq : v.requestsPeriodic s.readsRunning
    case neg =>
      have hnot : ¬requested := fun ⟨hs, hm, hi⟩ => hreq ⟨by rw [State.readsRunning, hs], hmains.trans hm, hmatch.mpr hi⟩
      rw [State.periodicNotice_of_not_requested hreq]
      exact ⟨fun h => absurd h hnot, fun h => absurd h hnot, fun h => absurd h hnot, fun _ _ => ⟨hx.notice, hx.kept.1⟩⟩
    case pos =>
      have hrequested : s.station.state ≠ .joining → requested := fun hj =>
        ⟨(s.readsRunning_mains hreq.1).resolve_right hj, hmains.symm.trans hreq.2.1, hmatch.mp hreq.2.2⟩
      have hdigest : v.station.digest = s.station.digest := s.station.firstBoundary_kept.2.2.2.1
      obtain ⟨hqueued, hfollows⟩ := State.periodicNotice_behind hreq hx.ahead
      by_cases hsend : sending
      · rw [hfollows (hsending.mpr hsend)]
        exact ⟨fun _ h => absurd hsend h, fun _ _ => ⟨hx.notice, rfl⟩, fun _ h => absurd hsend.1 h,
          fun h hj => absurd (hrequested hj) h⟩
      · rw [hqueued (mt hsending.mp hsend)]
        exact ⟨fun _ _ => ⟨_, rfl, hx.kept.1, rfl, rfl, rfl, rfl, rfl, hdigest, rfl⟩, fun _ h => absurd h hsend,
          fun _ h => hx.resting h, fun h hj => absurd (hrequested hj) h⟩

end Sys2Proof.Machine

/-! SUPPORT. The close of a window at its grace expiry (R62, R65, R67, R68, R80 to R85, R95 to R101). Settles O30 and O32. -/

namespace Sys2Proof.Machine

variable {s : State}

/-! ### The state the close starts from -/

/-- R62, R65: grace disarmed, the report settled, and the GRACE entry taken out of the table. -/
def State.beforeClose (s : State) (e : WindowEntry) : State :=
  let settled := { s with
    timebase := { s.timebase with graceArmed := false, due := { s.timebase.due with graceExpiry := false } } }.settleAtExpiry
      e.reportStatus
  { settled with windows := { settled.windows with graceEntry := none } }

@[simp] theorem State.beforeClose_frame (e : WindowEntry) :
    (s.beforeClose e).rstnHigh = s.rstnHigh ∧ (s.beforeClose e).pfailnHigh = s.pfailnHigh ∧
    (s.beforeClose e).port = s.port ∧ (s.beforeClose e).station = s.station ∧ (s.beforeClose e).items = s.items ∧
    (s.beforeClose e).calendar = s.calendar ∧ (s.beforeClose e).meters = s.meters ∧
    (s.beforeClose e).converter = s.converter ∧ (s.beforeClose e).contexts = s.contexts ∧
    (s.beforeClose e).records = s.records ∧ (s.beforeClose e).receiver = s.receiver ∧
    (s.beforeClose e).peers = s.peers ∧ (s.beforeClose e).freeCount = s.freeCount ∧
    (s.beforeClose e).pending = s.pending := by
  simp [State.beforeClose]

theorem State.beforeClose_raised (e : WindowEntry) :
    CauseUnit.RaisedFrom {.txFailure} s.causes (s.beforeClose e).causes :=
  State.settleAtExpiry_raised .refl rfl

/-- R65, R67: but for the table, a grace expiry leaves what the close of its entry leaves. -/
theorem State.graceExpiry_of_entry {e : WindowEntry} (he : s.windows.graceEntry = some e) :
    s.graceExpiry =
      { (s.beforeClose e).closeWindow { e with reportStatus := s.transmitter.statusAtExpiry e.reportStatus } with
        windows := s.graceExpiry.windows } := by
  simp only [State.graceExpiry, he]
  rfl

theorem exec_graceExpiry (hr : s.rstnHigh = true) (hg : s.timebase.due.graceExpiry = true) :
    exec .graceExpiry s = .next s.graceExpiry := by
  rw [exec_of_eventEffect (c := .graceExpiry) rfl, takeEvent_of_high hr, if_pos hg]

/-! ### The close of a window (R67 to R85) -/

theorem State.closeWindow_station (w : WindowEntry) :
    (s.closeWindow w).station =
      { s.station with skew := skewOf s.items.skewLimit (measuredOffsets w s.peers) } := by
  unfold State.closeWindow
  dsimp only
  split <;> simp

/-- R85: CLOSING is discarded by the last close of its day. -/
theorem State.finishDay_contexts (s : State) : s.finishDay.contexts = { s.contexts with closing := none } := by
  unfold State.finishDay
  split
  · next h => rw [← h]
  · simp

theorem State.closeWindow_contexts (w : WindowEntry) :
    (s.closeWindow w).contexts =
      if s.endsDay w then { s.contextsAfterClose w with closing := none } else s.contextsAfterClose w := by
  unfold State.closeWindow
  dsimp only
  split
  · simp [State.finishDay_contexts]
  · simp

/-- R85: no record is offered but by the last close of a day. -/
theorem State.closeWindow_records_of_not_last {w : WindowEntry} (h : s.endsDay w = false) :
    (s.closeWindow w).records = s.records := by
  simp [State.closeWindow, h]

/-- R83: CLOCK_SKEW is raised by the change of the skew status alone. -/
theorem State.closeWindow_clockSkew (w : WindowEntry) :
    flagOf (s.closeWindow w).causes.pending .clockSkew =
      (flagOf s.causes.pending .clockSkew ||
        skewRaises s.station.skew (skewOf s.items.skewLimit (measuredOffsets w s.peers))) := by
  unfold State.closeWindow
  dsimp only
  split
  · rw [(State.finishDay_raised .refl subset_rfl).other (by simp [Cause.ofRecords]), State.flagOf_raiseIf]
    simp
  · rw [State.flagOf_raiseIf]
    simp

theorem countPeers_eq (peers : List PeerEntry) (x : PeerState) :
    countPeers peers x = peers.countP fun p => p.state = x := by
  rw [countPeers, List.countP_eq_length_filter]
  rfl

theorem skewRaises_iff (before after : SkewStatus) :
    skewRaises before after = true ↔ after ≠ .noSkew ∧ after ≠ before := by
  simp [skewRaises]

/-- R82: the reports measured on the closing window, counted where they stand in the Peer Table. -/
theorem countP_measuredOffsets (w : WindowEntry) (peers : List PeerEntry) (test : Int → Bool) :
    (measuredOffsets w peers).countP test =
      peers.countP fun p =>
        decide (p.address ∈ w.contributors) &&
          (match p.acceptance with | some a => decide (a.offsetIndex = w.index) && test a.offset | none => false) := by
  rw [measuredOffsets, List.countP_filterMap]
  refine List.countP_congr fun p _ => ?_
  rcases p.acceptance with _ | a
  · simp
  · by_cases hm : p.address ∈ w.contributors <;> by_cases hi : a.offsetIndex = w.index <;> simp [hm, hi]

/-- R82, R83: the skew status from the counts of the reports measured, above the limit and below. -/
theorem skewOf_measuredOffsets (limit : Nat) (w : WindowEntry) (peers : List PeerEntry) :
    skewOf limit (measuredOffsets w peers) =
      let measured (test : Int → Bool) (p : PeerEntry) : Bool :=
        decide (p.address ∈ w.contributors) &&
          (match p.acceptance with | some a => decide (a.offsetIndex = w.index) && test a.offset | none => false)
      let m := peers.countP (measured fun _ => true)
      let above := peers.countP (measured fun offset => decide ((limit : Int) < offset))
      let below := peers.countP (measured fun offset => decide (offset < -(limit : Int)))
      if 2 ≤ m ∧ m < above * 2 then .behind else if 2 ≤ m ∧ m < below * 2 then .ahead else .noSkew := by
  have hlength : (measuredOffsets w peers).length = (measuredOffsets w peers).countP fun _ => true := by simp
  simp only [skewOf, hlength, ← List.countP_eq_length_filter, countP_measuredOffsets]

/-- R80: the upkeep of one entry, by its place in the contributor set and its state. -/
theorem upkeep_eq (contributors : List Nat) (peers : List PeerEntry) :
    upkeep contributors peers = peers.map fun p =>
      if p.address ∈ contributors then p
      else
        match p.state with
        | .present =>
          { p with missed := min 15 (p.missed + 1), state := if 3 ≤ p.missed then .silent else .present }
        | .silent => { p with missed := min 15 (p.missed + 1) }
        | .quiet | .incompatible => p := by
  refine List.map_congr_left fun p _ => ?_
  have hsilent : 4 ≤ min 15 (p.missed + 1) ↔ 3 ≤ p.missed := by omega
  simp only [List.contains_iff_mem, PeerEntry.miss, hsilent] <;> rfl

/-- R68: the window's day is the day before CURRENT's. -/
theorem State.foldsIntoClosing_iff {c : PeriodContext} (hc : s.contexts.current = some c) (w : WindowEntry) :
    s.foldsIntoClosing w = true ↔ w.index / s.items.length.perDay = (c.day + 65535) % 65536 := by
  rw [State.foldsIntoClosing, hc]
  exact beq_iff_eq

theorem State.endsDay_iff (w : WindowEntry) :
    s.endsDay w = true ↔ s.foldsIntoClosing w = true ∧ w.index % s.items.length.perDay + 1 = s.items.length.perDay := by
  have hpos : 0 < s.items.length.perDay := by cases s.items.length <;> decide
  rw [State.endsDay, Bool.and_eq_true, beq_iff_eq]
  exact and_congr_right fun _ => by omega

/-- Settles O30: the context folded into, the upkeep of the peers and the skew check, of a close that may end its day. -/
theorem closeAtGraceExpiry : Obligations.CloseAtGraceExpiry := by
  intro s e c hr hg he hc windows intoClosing quietPeers measured m above below skew
  let w : WindowEntry := { e with reportStatus := s.transmitter.statusAtExpiry e.reportStatus }
  have hfolds : (s.beforeClose e).foldsIntoClosing w = true ↔ intoClosing := by
    rw [State.foldsIntoClosing_iff (c := c) (by simpa using hc)]
    simp only [State.beforeClose_frame]
    rfl
  have hends : (s.beforeClose e).endsDay w = true ↔ intoClosing ∧ e.index % windows + 1 = windows := by
    rw [State.endsDay_iff, hfolds]
    simp only [State.beforeClose_frame]
    rfl
  have hskew : skewOf s.items.skewLimit (measuredOffsets w s.peers) = skew := skewOf_measuredOffsets _ _ _
  refine ⟨s.graceExpiry, exec_graceExpiry hr hg, ?_⟩
  have hcontexts : (s.beforeClose e).contextsAfterClose w =
      if intoClosing then
        { s.contexts with closing := s.contexts.closing.map fun k => k.close s.items s.calendar e quietPeers }
      else { s.contexts with current := some (c.close s.items s.calendar e quietPeers) } := by
    have hquiet : countPeers s.peers .quiet = quietPeers := countPeers_eq _ _
    simp only [State.contextsAfterClose, State.beforeClose_frame, hquiet, hfolds, hc]
    rfl
  rw [State.graceExpiry_of_entry he]
  refine ⟨fun hnot => ?_, fun hinto => ?_, fun hinto hlast => ?_, ?_, ?_, ?_⟩
  · have hlast : (s.beforeClose e).endsDay w = false := by simpa using mt hends.mp fun h => hnot h.1
    refine ⟨?_, (State.closeWindow_records_of_not_last hlast).trans (by simp)⟩
    rw [State.closeWindow_contexts, hlast, hcontexts, if_neg hnot]
    rfl
  · rw [State.closeWindow_contexts, hcontexts, if_pos hinto]
    split <;> exact hc
  · have hlast : (s.beforeClose e).endsDay w = false := by simpa using mt hends.mp fun h => hlast h.2
    refine ⟨?_, (State.closeWindow_records_of_not_last hlast).trans (by simp)⟩
    rw [State.closeWindow_contexts, hlast, hcontexts, if_pos hinto]
    rfl
  · have hpeers : upkeep w.contributors (s.beforeClose e).peers = upkeep e.contributors s.peers := by simp [w]
    exact (State.closeWindow_peers w).trans (hpeers.trans (upkeep_eq _ _))
  · rw [State.closeWindow_station]
    simp [w, hskew]
  · rw [State.closeWindow_clockSkew, Bool.or_eq_true, skewRaises_iff, (s.beforeClose_raised e).other (by simp)]
    simp [w, hskew]

/-! ### The day's FINAL record (R85, R95, R100, R101) -/

theorem State.offerFinal_of_room {r : Record} (h : s.records.queue.length < 8) : s.offerFinal r = s.enqueue r := if_pos h

theorem State.offerFinal_of_full {r : Record} (h : 8 ≤ s.records.queue.length) :
    s.offerFinal r =
      { s with
        records :=
          { s.records with
            overflow := some (match s.records.overflow with | none => r | some older => mergeRecords older r) }
        causes := s.causes.raise .queueOverrun } :=
  if_neg (Nat.not_lt.mpr h)

theorem State.finishDay_of_closing {k : PeriodContext} (hk : s.contexts.closing = some k) :
    s.finishDay =
      { s with contexts := { s.contexts with closing := none } }.offerFinal
        (buildRecord .finalRecord s.items k (k.rxSnapshot.getD ⟨0, 0, 0, 0⟩)) := by
  simp only [State.finishDay, hk]

/-- R85, R95: the last close of a day offers the FINAL record of the context it closes. -/
theorem State.closeWindow_of_last {w : WindowEntry} {k : PeriodContext} (hends : s.endsDay w = true)
    (hk : (s.contextsAfterClose w).closing = some k) :
    ∃ v : State, s.closeWindow w = v.offerFinal (buildRecord .finalRecord v.items k (k.rxSnapshot.getD ⟨0, 0, 0, 0⟩)) ∧
      v.records = s.records ∧ v.items = s.items ∧ CauseUnit.RaisedFrom {.clockSkew} s.causes v.causes := by
  unfold State.closeWindow
  dsimp only
  rw [if_pos hends, State.finishDay_of_closing (k := k) (by simpa using hk)]
  refine ⟨_, rfl, ?_, ?_, ?_⟩
  · simp
  · simp
  · exact State.raiseIf_raised .refl rfl

/-- Settles O32: the FINAL record of the closed context offered to a queue with room or to a full one. -/
theorem dayEndRecord : Obligations.DayEndRecord := by
  intro s e c k rx hr hg he hc hk hrx windows hday hlast day record
  let w : WindowEntry := { e with reportStatus := s.transmitter.statusAtExpiry e.reportStatus }
  have hfolds : (s.beforeClose e).foldsIntoClosing w = true := by
    rw [State.foldsIntoClosing_iff (c := c) (by simpa using hc)]
    simp only [State.beforeClose_frame]
    exact hday
  have hends : (s.beforeClose e).endsDay w = true := by
    rw [State.endsDay_iff]
    simp only [State.beforeClose_frame]
    exact ⟨hfolds, hlast⟩
  have hcontexts : (s.beforeClose e).contextsAfterClose w = { s.contexts with closing := some day } := by
    have hquiet := countPeers_eq s.peers .quiet
    simp only [State.contextsAfterClose, State.beforeClose_frame, hquiet, hfolds, hk]
    rfl
  obtain ⟨v, hclose, hrecords, hitems, hraised⟩ := State.closeWindow_of_last (k := day) hends (by rw [hcontexts])
  have hitems : v.items = s.items := by simpa using hitems
  have hthreshold : v.alertThreshold = 8 - s.items.queueAlertLevel := by rw [State.alertThreshold, hitems]; rfl
  have hrecord : buildRecord .finalRecord v.items day (day.rxSnapshot.getD ⟨0, 0, 0, 0⟩) = record := by
    have hsnapshot : day.rxSnapshot = some rx := hrx
    rw [hsnapshot, hitems]
    rfl
  have hsame {x : Cause} (hx : x ≠ .clockSkew) (hx' : x ≠ .txFailure) :
      flagOf v.causes.pending x = flagOf s.causes.pending x :=
    (hraised.other hx).trans ((s.beforeClose_raised e).other hx')
  have hqueue : v.records = s.records := by simpa using hrecords
  refine ⟨s.graceExpiry, exec_graceExpiry hr hg, ?_, fun hroom => ?_, fun hfull => ?_⟩
  · rw [State.graceExpiry_of_entry he, State.closeWindow_contexts, if_pos hends, hcontexts, ← hc]
  · rw [State.graceExpiry_of_entry he, hclose, hrecord, State.offerFinal_of_room (by rwa [hqueue]), State.enqueue_eq,
      hqueue, hthreshold]
    refine ⟨rfl, v.causes.recordReady_of_recordEntered _, ?_, ?_⟩
    · rw [← hsame (x := .queueAlert) (by decide) (by decide)]
      exact v.causes.queueAlert_of_recordEntered
    · rw [← hsame (x := .queueOverrun) (by decide) (by decide)]
      exact v.causes.other_of_recordEntered _ (by decide) (by decide)
  · rw [State.graceExpiry_of_entry he, hclose, hrecord, State.offerFinal_of_full (by rwa [hqueue]), hqueue]
    refine ⟨rfl, ?_, ?_, ?_⟩
    · simp [CauseUnit.flagOf_raised]
    · simp [CauseUnit.flagOf_raised, hsame]
    · simp [CauseUnit.flagOf_raised, hsame]

end Sys2Proof.Machine

/-! SUPPORT. Reception of a character, of an idle gap and of a start bit (R112, R116, R137, R138, R140), written out for the
receiver and the transmitter. Settles O35 and O36. -/

namespace Sys2Proof.Machine

variable {s : State}

/-- R121: where no complete frame waits nothing is judged. -/
theorem State.judgeWaiting_of_none (h : s.receiver.parser = .inFrame → frameComplete s.receiver.frame = false) :
    s.judgeWaiting = s := by
  refine if_neg fun hw => ?_
  simp only [State.frameWaits, Bool.and_eq_true, beq_iff_eq] at hw
  simp [h hw.1] at hw

/-! ### Start bit and idle gap -/

/-- R112, R138: a start bit written out. -/
theorem State.startBit_eq (s : State) :
    s.startBit =
      { s with
        receiver :=
          { s.receiver with
            gapTimer := 0, charInProgress := true
            lrxAtSpace := if s.transmitter.testMode = .internal then s.receiver.lrxAtSpace else false }
        transmitter :=
          { s.transmitter with
            state := if s.transmitter.state = .backoff then .waitIdle else s.transmitter.state
            backoffSlots := if s.transmitter.state = .backoff then 0 else s.transmitter.backoffSlots } } := by
  unfold State.startBit
  split <;> rfl

theorem exec_startBit (hr : s.rstnHigh = true) :
    exec .startBit s = .next (if s.sourceStarts then s.startBit else s) := by
  rw [exec_of_eventEffect (c := .startBit) rfl, takeEvent_of_high hr]

theorem exec_idleGap (hr : s.rstnHigh = true) : exec .idleGap s = .next (if s.gapCanEnd then s.idleGap else s) := by
  rw [exec_of_eventEffect (c := .idleGap) rfl, takeEvent_of_high hr]

theorem State.sourceStarts_iff (s : State) :
    s.sourceStarts = true ↔
      s.receiverOn = true ∧ (s.transmitter.testMode ≠ .internal ∨ s.transmitter.state = .sending) := by
  simp [State.sourceStarts]

theorem State.gapCanEnd_iff (s : State) :
    s.gapCanEnd = true ↔ s.receiverOn = true ∧ s.receiver.gapTimer < 4 ∧ s.receiver.charInProgress = false := by
  simp [State.gapCanEnd, and_assoc]

/-- R116: a gap reported to the parser leaves the level of LRX as it stands. -/
theorem Receiver.takeGap_with_lrx (r : Receiver) (space : Bool) :
    { r with lrxAtSpace := space }.takeGap = { r.takeGap with lrxAtSpace := space } := by
  unfold Receiver.takeGap
  dsimp only
  split <;> rfl

/-- R112, R116: an idle gap written out, but for what the transmitter does. -/
theorem State.idleGap_eq (hw : s.receiver.parser = .inFrame → frameComplete s.receiver.frame = false) :
    s.idleGap =
      { s with
        receiver :=
          { s.receiver.takeGap with
            gapTimer := 4
            lrxAtSpace := if s.transmitter.testMode = .internal then s.receiver.lrxAtSpace else false }
        transmitter := s.idleGap.transmitter } := by
  unfold State.idleGap
  rw [State.judgeWaiting_of_none hw]
  dsimp only
  rw [State.seeLrx_receiver, Receiver.takeGap_with_lrx]
  split <;> rfl

theorem State.idleGap_transmitter_of_not_waiting (h : s.transmitter.state ≠ .waitIdle) :
    s.idleGap.transmitter = s.transmitter := by
  unfold State.idleGap
  dsimp only
  rw [if_neg (by simpa using h)]
  simp

/-- R137: the backoff of the current frame, by the slot it stands in. -/
theorem State.backoffOf_current (s : State) :
    (s.transmitter.current = some .report → ∀ f, s.transmitter.report = some f →
      (∀ w, f.content = .windowReport w →
        backoffOf s.backoffAddress s.transmitter.currentAttempts s.transmitter.currentSeed =
          backoffOf s.items.address f.attempts f.seed) ∧
      (∀ n, f.content = .lineTest n →
        backoffOf s.backoffAddress s.transmitter.currentAttempts s.transmitter.currentSeed =
          backoffOf 0 f.attempts f.seed)) ∧
    (s.transmitter.current = some .notice → ∀ f, s.transmitter.notice = some f →
      backoffOf s.backoffAddress s.transmitter.currentAttempts s.transmitter.currentSeed =
        backoffOf s.items.address f.attempts f.seed) := by
  refine ⟨fun hc f hf => ⟨fun w hw => ?_, fun n hn => ?_⟩, fun hc f hf => ?_⟩
  · obtain ⟨content, attempts, seed, expired, stuck⟩ := f
    obtain rfl : content = .windowReport w := hw
    simp [State.backoffAddress, Transmitter.currentAttempts, Transmitter.currentSeed, hc, hf]
  · obtain ⟨content, attempts, seed, expired, stuck⟩ := f
    obtain rfl : content = .lineTest n := hn
    simp [State.backoffAddress, Transmitter.currentAttempts, Transmitter.currentSeed, hc, hf]
  · simp [State.backoffAddress, Transmitter.currentAttempts, Transmitter.currentSeed, hc, hf]

/-- Settles O36: the gap by the parser's state and by the transmitter's; the start bit by its source. -/
theorem idleGapAndStartBit : Obligations.IdleGapAndStartBit := by
  intro s hr k
  refine ⟨fun hoff => ⟨?_, ?_⟩, fun hon hgap hchar hwaits => ?gap, fun hon hsource => ?_, fun hm hs => ?_⟩
  · rw [exec_idleGap hr, if_neg fun h => absurd (s.gapCanEnd_iff.mp h).1 (by simp [hoff])]
  · rw [exec_startBit hr, if_neg fun h => absurd (s.sourceStarts_iff.mp h).1 (by simp [hoff])]
  case gap =>
    refine ⟨s.receiver.takeGap, s.idleGap.transmitter, ?_, fun hp => ?_, fun hp => ?_, fun hp => ?_,
      State.idleGap_transmitter_of_not_waiting, fun hwait => ?_⟩
    · rw [exec_idleGap hr, if_pos (s.gapCanEnd_iff.mpr ⟨hon, hgap, hchar⟩), State.idleGap_eq hwaits]
    · rcases hp with hp | hp <;> simp [Receiver.takeGap, hp]
    · simp only [Receiver.takeGap, hp]
      rfl
    · rcases hp with hp | hp | hp <;> simp [Receiver.takeGap, hp]
    · rw [State.idleGap_of_waitIdle hwait]
      exact ⟨rfl, s.backoffOf_current⟩
  · rw [exec_startBit hr, if_pos (s.sourceStarts_iff.mpr ⟨hon, hsource⟩), State.startBit_eq]
  · rw [exec_startBit hr, if_neg fun h => (s.sourceStarts_iff.mp h).2.elim (· hm) hs]

/-! ### A character -/

/-- R116, R118 to R120: of the receiver a character changes at the parser the state, the frame, its arrival and the errors. -/
theorem Receiver.takeOctet_with (r : Receiver) (gap : Nat) (progress space : Bool) (second : Nat) (o : Octet) (b : Bool) :
    { r with gapTimer := gap, charInProgress := progress, lrxAtSpace := space }.takeOctet second o b =
      { r with
        gapTimer := gap, charInProgress := progress, lrxAtSpace := space
        parser := (r.takeOctet second o b).parser, frame := (r.takeOctet second o b).frame
        arrivalSecond := (r.takeOctet second o b).arrivalSecond, errors := (r.takeOctet second o b).errors } := by
  unfold Receiver.takeOctet
  dsimp only
  repeat' split
  all_goals rfl

/-- R138, R140: a transmitter that defers reads nothing back. -/
theorem Transmitter.readOctet_deferred (t : Transmitter) {defers : Prop} [Decidable defers] (h : defers → t.state = .backoff)
    (o : Octet) (b : Bool) :
    { t with
      state := if defers then .waitIdle else t.state
      backoffSlots := if defers then 0 else t.backoffSlots }.readOctet o b =
      { t with
        state := if defers then .waitIdle else t.state
        backoffSlots := if defers then 0 else t.backoffSlots
        readBack := (t.readOctet o b).readBack } := by
  by_cases hd : defers
  · simp [Transmitter.readOctet, hd, h hd]
  · simp only [if_neg hd]
    unfold Transmitter.readOctet
    split <;> rfl

/-- R112, R138: the start bit of a character, where it has not been taken yet. -/
theorem State.impliedStartBit_transmitter (s : State) :
    s.impliedStartBit.transmitter =
      { s.transmitter with
        state :=
          if s.transmitter.state = .backoff ∧ s.receiver.charInProgress = false then .waitIdle else s.transmitter.state
        backoffSlots :=
          if s.transmitter.state = .backoff ∧ s.receiver.charInProgress = false then 0
          else s.transmitter.backoffSlots } := by
  unfold State.impliedStartBit
  rw [State.startBit_eq]
  cases s.receiver.charInProgress <;> simp

/-- R112: after the start bit and the stop bit the receiver stands as it did, but for its timer, its mark and LRX. -/
theorem State.impliedStartBit_rested (s : State) (space : Bool) :
    { (s.impliedStartBit.seeLrx space).receiver with gapTimer := 0, charInProgress := false } =
      { s.receiver with
        gapTimer := 0, charInProgress := false
        lrxAtSpace := if s.transmitter.testMode = .internal then s.receiver.lrxAtSpace else space } := by
  rw [State.seeLrx_receiver, State.impliedStartBit_transmitter]
  unfold State.impliedStartBit
  rw [State.startBit_eq]
  cases s.receiver.charInProgress <;> by_cases h : s.transmitter.testMode = .internal <;> simp [h]

/-- R112, R116, R140: a character written out, but for what the parser and the read-back make of it. -/
theorem State.character_eq (hw : s.receiver.parser = .inFrame → frameComplete s.receiver.frame = false) (o : Octet)
    (b : Bool) :
    let x := s.receiver.takeOctet s.timebase.secondOfDay o b
    let defers := s.transmitter.state = .backoff ∧ s.receiver.charInProgress = false
    s.character o b =
      { s with
        receiver :=
          { s.receiver with
            gapTimer := 0, charInProgress := false
            lrxAtSpace := if s.transmitter.testMode = .internal then s.receiver.lrxAtSpace else !b
            parser := x.parser, frame := x.frame, arrivalSecond := x.arrivalSecond, errors := x.errors }
        transmitter :=
          { s.transmitter with
            state := if defers then .waitIdle else s.transmitter.state
            backoffSlots := if defers then 0 else s.transmitter.backoffSlots
            readBack := (s.transmitter.readOctet o b).readBack } } := by
  intro x defers
  have hstarted : s.impliedStartBit.seeLrx (!b) =
      { s with
        receiver := (s.impliedStartBit.seeLrx !b).receiver, transmitter := s.impliedStartBit.transmitter } := by
    unfold State.impliedStartBit
    split <;> rfl
  rw [State.character, State.judgeWaiting_of_none hw]
  dsimp only
  rw [s.impliedStartBit_rested, Receiver.takeOctet_with, hstarted, State.impliedStartBit_transmitter,
    Transmitter.readOctet_deferred _ fun h => h.1]

theorem structureFails_append_iff (l : List Octet) (o : Octet) :
    structureFails (l ++ [o]) = true ↔
      l.length = 1 ∧ payloadLength o = none ∨
        ∃ lead kind, l = [lead, kind] ∧ payloadLength kind ≠ some o.toNat := by
  match l with
  | [] => simp [structureFails]
  | [_] => simp [structureFails]
  | [_, _] => simp [structureFails]
  | _ :: _ :: _ :: _ => simp [structureFails]

/-- R113, R114: the character that reaches the parser. -/
theorem exec_lineOctetReceived {o : Octet} {b : Bool} (hr : s.rstnHigh = true) {octet : Octet} {stopBit : Bool}
    (h : s.sourceCharacter octet stopBit = some (o, b)) :
    exec (.lineOctetReceived octet stopBit) s = .next (s.character o b) := by
  rw [exec_of_eventEffect (c := .lineOctetReceived octet stopBit) rfl, takeEvent_of_high hr, h]

theorem exec_lineOctetReceived_of_none (hr : s.rstnHigh = true) {octet : Octet} {stopBit : Bool}
    (h : s.sourceCharacter octet stopBit = none) : exec (.lineOctetReceived octet stopBit) s = .next s := by
  rw [exec_of_eventEffect (c := .lineOctetReceived octet stopBit) rfl, takeEvent_of_high hr, h]

/-- Settles O35: the source's character, then the parser's table by state, stop bit and octet, then the read-back. -/
theorem characterReachesTheParser : Obligations.CharacterReachesTheParser := by
  intro s octet stopBit hr internal
  refine ⟨fun hoff => ?_, fun hint hidle => ?_, fun o b hon hsource hwaits => ?_⟩
  · exact exec_lineOctetReceived_of_none hr (if_pos hoff)
  · refine exec_lineOctetReceived_of_none hr ?_
    unfold State.sourceCharacter
    rw [if_pos hint]
    split
    · rfl
    rcases hidle with hs | hd
    · split <;> simp [State.octetsSent, hs]
    · rw [hd]
  · intro old lengthOf defers
    have hcharacter : s.sourceCharacter octet stopBit = some (o, b) := by
      rw [State.sourceCharacter, if_neg (by simp [hon])]
      rcases hsource with ⟨hext, rfl, rfl⟩ | ⟨hint, hsending, rfl, n, hmatched, hsent⟩
      · exact if_neg hext
      · rw [if_pos hint, hmatched]
        simp [State.octetsSent, hsending, hsent]
    refine ⟨old.takeOctet s.timebase.secondOfDay o b, (s.transmitter.readOctet o b).readBack, ?_, fun hp => ?_,
      fun hp => ?_, fun ⟨hp, hb⟩ => ?_, fun ⟨hp, hb, ho⟩ => ?_, fun ⟨hp, hb⟩ => ?_, fun hs => ?_, fun hs n sent hn hsent => ?_,
      fun hd => ?_⟩
    · rw [exec_lineOctetReceived hr hcharacter, State.character_eq hwaits]
    · rcases hp with hp | hp | hp <;> simp [Receiver.takeOctet, hp]
    · rcases hp with hp | ⟨hp, hb, ho⟩
      · simp only [Receiver.takeOctet, hp]
        rfl
      · have hlead : o ≠ leadOctet := ho
        simp only [Receiver.takeOctet, hp, hb, if_neg hlead]
        rfl
    · rcases hp with hp | hp
      all_goals
        simp only [Receiver.takeOctet, hp, hb]
        rfl
    · simp only [Receiver.takeOctet, hp, hb, ho]
      rfl
    · intro wrongKind wrongLength
      have hfails : structureFails (old.frame ++ [o]) = true ↔ wrongKind ∨ wrongLength :=
        structureFails_append_iff old.frame o
      have htaken : old.takeOctet s.timebase.secondOfDay o b =
          if structureFails (old.frame ++ [o]) then old.lengthError .waitGap
          else { old with frame := old.frame ++ [o] } := by
        simp [Receiver.takeOctet, hp, hb]
      refine ⟨fun hwrong => ?_, fun hkind hlen => ?_⟩
      · rw [htaken, if_pos (hfails.mpr hwrong)]
        rfl
      · rw [htaken, if_neg fun h => (hfails.mp h).elim hkind hlen]
    · rw [Transmitter.readOctet, if_neg hs]
    · rw [Transmitter.readOctet, if_pos hs]
      simp only [Transmitter.compare, hn, hsent]
    · unfold Transmitter.readOctet Transmitter.compare
      rw [hd]
      split
      · rfl
      · exact hd

end Sys2Proof.Machine

/-! SUPPORT. A complete frame judged (R117, R121, R124 to R126): its CRC, its kind and its sender. Settles O37. -/

namespace Sys2Proof.Machine

variable {s : State}

/-! ### The CRC octets (R117) -/

theorem octets_two (v : Nat) : octets 2 v = [BitVec.ofNat 8 (v / 256), BitVec.ofNat 8 v] := by simp [octets]

/-- R117: the two octets of a 16-bit number are its halves, the high one first. -/
theorem octets_two_toNat (x : BitVec 16) : octets 2 x.toNat = [x.extractLsb' 8 8, x.extractLsb' 0 8] := by
  rw [octets_two]
  congr 1
  exact BitVec.eq_of_toNat_eq (by simp [BitVec.extractLsb'_toNat, Nat.shiftRight_eq_div_pow])

theorem append_of_octets_two {x : BitVec 16} {high low : Octet} (h : octets 2 x.toNat = [high, low]) : high ++ low = x := by
  rw [octets_two_toNat, List.cons.injEq, List.cons.injEq] at h
  obtain ⟨rfl, rfl, -⟩ := h
  refine BitVec.eq_of_getLsbD_eq fun i hi => ?_
  rw [BitVec.getLsbD_append]
  by_cases h : i < 8
  · simp [h]
  · have hlow : i - 8 < 8 := by omega
    simp [h, hlow, Nat.add_sub_cancel' (Nat.not_lt.mp h)]

/-- R121: a frame whose CRC octets are not those of what it covers. -/
theorem exec_frameReceived_of_badCrc {kind c1 c0 : Octet} {payload : List Octet} (hr : s.rstnHigh = true)
    (hp : s.receiver.parser = .inFrame) (hlength : payloadLength kind = some payload.length)
    (hframe : s.receiver.frame = 0xC3 :: kind :: BitVec.ofNat 8 payload.length :: payload ++ [c1, c0])
    (hcrc : c1 ++ c0 ≠ crc16 (kind :: BitVec.ofNat 8 payload.length :: payload)) :
    exec .frameReceived s = .next { s with receiver := s.receiver.crcError } := by
  have hwaits : s.frameWaits = true := by
    simp [State.frameWaits, hp, hframe, frameComplete, hlength]
  have hbad : frameGood s.receiver.frame = false := by
    rw [hframe, frameGood]
    simp only [beq_eq_false_iff_ne, ne_eq]
    intro h
    refine hcrc (append_of_octets_two ?_)
    simpa [List.drop_append, List.take_append] using h
  rw [exec_frameReceived, takeEvent_of_high hr, State.judgeWaiting, if_pos hwaits, State.judge, if_neg (by simp [hbad])]

/-! ### The kinds (R115, R125) -/

theorem kind_of_payloadLength {kind : Octet} {n : Nat} (h : payloadLength kind = some n) :
    kind = 0x31 ∧ n = 32 ∨ kind = 0x32 ∧ n = 11 ∨ kind = 0x3F ∧ n = 8 := by
  unfold payloadLength at h
  split at h
  · next hk => exact .inl ⟨hk, by simpa using h.symm⟩
  split at h
  · next hk => exact .inr (.inl ⟨hk, by simpa using h.symm⟩)
  split at h
  · next hk => exact .inr (.inr ⟨hk, by simpa using h.symm⟩)
  · cases h

theorem lineTestWellFormed_iff {payload : List Octet} (hlength : payload.length = 8) :
    lineTestWellFormed payload = true ↔ octetAt payload 0 = 0x00 ∧ payload.drop 3 = [0x5A, 0xA5, 0x33, 0xCC, 0x0F] := by
  rw [lineTestWellFormed, List.take_of_length_le (by simp [hlength])]
  simp [testPattern]

theorem noticeStateOfCode_isSome {o : Octet} : (noticeStateOfCode o).isSome = true ↔ o = 0x01 ∨ o = 0x02 ∨ o = 0x04 := by
  unfold noticeStateOfCode
  split
  · next h => simp [h]
  split
  · next h => simp [h]
  split
  · next h => simp [h]
  · simp_all

theorem State.dispatch_of_lineTest (payload : List Octet) : s.dispatch 0x3F payload = s.dispatchLineTest payload := if_pos rfl

theorem State.dispatch_of_unconfigured {kind : Octet} (hk : kind ≠ 0x3F) (hs : s.station.state = .unconfigured)
    (payload : List Octet) : s.dispatch kind payload = s.ignoreFrame := by
  have hpeer : kind ≠ lineTestKind := hk
  rw [State.dispatch, if_neg hpeer, if_pos hs]

theorem State.dispatch_of_commissioned {kind : Octet} (hk : kind ≠ 0x3F) (hs : s.station.state ≠ .unconfigured)
    (payload : List Octet) : s.dispatch kind payload = s.dispatchFromPeer kind payload := by
  have hpeer : kind ≠ lineTestKind := hk
  rw [State.dispatch, if_neg hpeer, if_neg hs]

/-- R125: a frame from outside 1 to 64 is malformed. -/
theorem State.dispatchFromPeer_of_badSender {payload : List Octet} (h : fieldAt payload 0 1 = 0 ∨ 64 < fieldAt payload 0 1)
    (kind : Octet) : s.dispatchFromPeer kind payload = s.malformedFrame := if_pos h

/-- R125: a notice whose state code is none of the three is malformed. -/
theorem State.dispatchFromPeer_of_badNotice {payload : List Octet} (h : noticeOfPayload payload = none) :
    s.dispatchFromPeer 0x32 payload = s.malformedFrame := by
  by_cases hsender : fieldAt payload 0 1 = 0 ∨ 64 < fieldAt payload 0 1
  · exact State.dispatchFromPeer_of_badSender hsender _
  · have hnotice : (0x32 : Octet) = presenceNoticeKind := rfl
    rw [State.dispatchFromPeer, if_neg hsender, if_pos hnotice, h]

/-- R125, R126: a frame under the station's own address. -/
theorem State.dispatchFromPeer_of_clash {kind : Octet} {payload : List Octet} (hlow : 1 ≤ fieldAt payload 0 1)
    (hhigh : fieldAt payload 0 1 ≤ 64) (hown : s.items.stationAddress = some (fieldAt payload 0 1))
    (hkind : kind = 0x31 ∨ octetAt payload 2 = 0x01 ∨ octetAt payload 2 = 0x02 ∨ octetAt payload 2 = 0x04) :
    s.dispatchFromPeer kind payload = s.addressClash := by
  rw [State.dispatchFromPeer, if_neg (by omega)]
  by_cases hnotice : kind = presenceNoticeKind
  · obtain ⟨x, hx⟩ := Option.isSome_iff_exists.mp
      (noticeStateOfCode_isSome.mpr (hkind.resolve_left (by rw [hnotice]; decide)))
    rw [if_pos hnotice, noticeOfPayload, hx]
    exact if_pos hown
  · rw [if_neg hnotice, if_pos hown]

/-- Settles O37: the CRC first, then the rows of R125 in their order. -/
theorem frameIsJudged : Obligations.FrameIsJudged := by
  intro s kind payload hr hp hlength after judged malformed ignored good sender
  have hdispatch (hgood : good) := exec_frameReceived_of_frame hr hp hlength hgood
  have hmalformed (hgood : good) (h : s.afterFrame.dispatch kind payload = s.afterFrame.malformedFrame) : malformed :=
    (hdispatch hgood).trans (congrArg _ h)
  have hignored (hgood : good) (h : s.afterFrame.dispatch kind payload = s.afterFrame.ignoreFrame) : ignored :=
    (hdispatch hgood).trans (congrArg _ h)
  refine ⟨fun c1 c0 hframe hcrc => exec_frameReceived_of_badCrc hr hp hlength hframe hcrc, fun hgood hk => ?lineTest,
    fun hgood hk => ⟨fun hs => hignored hgood (State.dispatch_of_unconfigured (s := s.afterFrame) hk hs _), fun hs hsender => ?_,
      fun hs hkind h1 h2 h4 => ?_, fun hs hlow hhigh hown hkind => ?_⟩⟩
  case lineTest =>
    subst hk
    have hwell := lineTestWellFormed_iff (payload := payload)
      (by rcases kind_of_payloadLength hlength with ⟨h, -⟩ | ⟨h, -⟩ | ⟨-, h⟩ <;> simp_all)
    have htest := s.afterFrame.dispatch_of_lineTest payload
    refine ⟨fun hbad => hmalformed hgood ?_, fun h0 hpattern => ⟨fun hoff => hignored hgood ?_, fun hon => ?_⟩⟩
    · rw [htest, State.dispatchLineTest, if_pos (by simpa using mt hwell.mp hbad)]
    · rw [htest, State.dispatchLineTest, if_neg (by simp [hwell.mpr ⟨h0, hpattern⟩])]
      exact if_pos hoff
    · refine (hdispatch hgood).trans (congrArg _ ?_)
      rw [htest, State.dispatchLineTest, if_neg (by simp [hwell.mpr ⟨h0, hpattern⟩])]
      exact if_neg hon
  · refine hmalformed hgood ?_
    rw [State.dispatch_of_commissioned hk (by exact hs), State.dispatchFromPeer_of_badSender hsender]
  · refine hmalformed hgood ?_
    have hnone : noticeOfPayload payload = none := by
      have hcode : noticeStateOfCode (octetAt payload 2) = none := by
        rw [← Option.not_isSome_iff_eq_none, noticeStateOfCode_isSome]
        exact fun h => h.elim h1 fun h => h.elim h2 h4
      rw [noticeOfPayload, hcode]
      rfl
    rw [State.dispatch_of_commissioned hk (by exact hs), hkind, State.dispatchFromPeer_of_badNotice hnone]
  · refine ⟨s.causes.raise .addressClash, (hdispatch hgood).trans (congrArg _ ?_), s.causes.flagOf_raised _, rfl, rfl, rfl⟩
    rw [State.dispatch_of_commissioned hk (by exact hs),
      State.dispatchFromPeer_of_clash hlow hhigh (by exact hown) hkind]
    rfl

end Sys2Proof.Machine

/-! SUPPORT. The start of an attempt and the levels of LTX and the internal loop during it (R111, R114, R139, R148, R150).
Settles O41. -/

namespace Sys2Proof.Machine

variable {s : State}

/-! ### The levels of a run of characters (R111) -/

theorem length_flatMap_characterLevels (l : List Octet) : (l.flatMap characterLevels).length = 10 * l.length := by
  induction l with
  | nil => rfl
  | cons o l ih =>
    rw [List.flatMap_cons, List.length_append, ih, characterLevels_length, List.length_cons]
    omega

/-- R111: after the last character the line rests at mark. -/
theorem levelAt_of_past {l : List Octet} {bit : Nat} (h : 10 * l.length ≤ bit) : levelAt l bit = true := by
  rw [levelAt, List.getElem?_eq_none (by rwa [length_flatMap_characterLevels])]
  rfl

/-- R111: the bits of the k-th character, ten to each. -/
theorem levelAt_of_character {l : List Octet} {k : Nat} {o : Octet} (h : l[k]? = some o) {i : Nat} (hi : i < 10) :
    levelAt l (10 * k + i) = ((characterLevels o)[i]?).getD true := by
  induction l generalizing k with
  | nil => cases h
  | cons x l ih =>
    rw [levelAt, List.flatMap_cons]
    cases k with
    | zero =>
      obtain rfl : x = o := by simpa using h
      rw [List.getElem?_append_left (by rw [characterLevels_length]; omega), Nat.mul_zero, Nat.zero_add]
    | succ k =>
      rw [List.getElem?_append_right (by rw [characterLevels_length]; omega), characterLevels_length,
        show 10 * (k + 1) + i - 10 = 10 * k + i by omega]
      exact ih (by simpa using h)

/-- R111: a start bit at space, eight data bits from the least significant, a stop bit at mark. -/
theorem characterLevels_bits (o : Octet) :
    ((characterLevels o)[0]?).getD true = false ∧
    (∀ i, i < 8 → ((characterLevels o)[1 + i]?).getD true = o.getLsbD i) ∧
    ((characterLevels o)[9]?).getD true = true := by
  refine ⟨rfl, fun i hi => ?_, rfl⟩
  rw [Nat.add_comm, characterLevels, List.getElem?_cons_succ, List.getElem?_append_left (by simpa using hi)]
  simp [hi]

/-! ### The pins (R114, R139, R148) -/

theorem State.lde_iff (s : State) :
    s.lde = true ↔ s.transmitter.state = .sending ∧ s.transmitter.testMode ≠ .internal := by simp [State.lde]

theorem State.loopLevel_of_outside (h : s.transmitter.testMode ≠ .internal ∨ s.transmitter.state ≠ .sending) (bit : Nat) :
    s.loopLevel bit = true := by
  unfold State.loopLevel
  split
  · next hm =>
    rw [State.octetsSent, if_neg (h.resolve_left (not_not_intro hm))]
    rfl
  · rfl

/-- R139, R148: during SENDING the frame's octets stand on LTX, or in INTERNAL mode on the loop. -/
theorem State.carried_of_sending (hs : s.transmitter.state = .sending) (bit : Nat) :
    (if s.lde then s.ltx bit else s.loopLevel bit) = levelAt s.transmitter.currentFrame bit := by
  have hsent : s.octetsSent = s.transmitter.currentFrame := if_pos hs
  by_cases hlde : s.lde = true
  · rw [if_pos hlde, State.ltx, if_pos hlde, hsent]
  · have hm : s.transmitter.testMode = .internal := by
      by_contra hm
      exact hlde (s.lde_iff.mpr ⟨hs, hm⟩)
    rw [if_neg hlde, State.loopLevel, if_pos hm, hsent]

/-! ### The start of an attempt (R139) -/

theorem exec_backoffExpiry (hr : s.rstnHigh = true) :
    exec .backoffExpiry s = .next (if s.transmitter.state = .backoff then s.startSending else s) := by
  rw [exec_of_eventEffect (c := .backoffExpiry) rfl, takeEvent_of_high hr]

theorem Transmitter.fill_eq (t : Transmitter) (second : Nat) :
    t.fill second = { t with report := (t.fill second).report, notice := (t.fill second).notice } := by
  unfold Transmitter.fill
  split <;> rfl

theorem State.startSending_eq (s : State) :
    s.startSending =
      { s with
        transmitter :=
          { s.transmitter with
            state := .sending, backoffSlots := 0, readBack := .matched 0
            report := (s.transmitter.fill s.timebase.secondOfDay).report
            notice := (s.transmitter.fill s.timebase.secondOfDay).notice }
        receiver :=
          if s.transmitter.testMode = .off then { s.receiver with parser := .held, frame := [] } else s.receiver } := by
  rw [State.startSending, Transmitter.fill_eq]

/-- R139: the frame filled is the current one. -/
theorem Transmitter.fill_report (t : Transmitter) (second : Nat) :
    (t.fill second).report =
      if t.current = some .report then t.report.map fun r => { r with content := r.content.fill second } else t.report := by
  unfold Transmitter.fill
  split <;> simp [*]

theorem Transmitter.fill_notice (t : Transmitter) (second : Nat) :
    (t.fill second).notice =
      if t.current = some .notice then t.notice.map fun n => { n with notice := { n.notice with second := second } }
      else t.notice := by
  unfold Transmitter.fill
  split <;> simp [*]

/-- Settles O41: the start with its filled frame, then the levels bit by bit. -/
theorem attemptStarts : Obligations.AttemptStarts := by
  intro s hr second
  refine ⟨fun hb => ?_, fun hb => ?start, s.lde_iff, fun hlde bit => ?_, State.loopLevel_of_outside, fun hs => ?levels⟩
  · rw [exec_backoffExpiry hr, if_neg hb]
  case start =>
    refine ⟨(s.transmitter.fill second).report, (s.transmitter.fill second).notice, ?_, fun hc => ?_, fun hc => ?_,
      fun hc f hf => ⟨fun w hw => ?_, fun m hm => ?_⟩, fun hc f hf => ?_⟩
    · rw [exec_backoffExpiry hr, if_pos hb, State.startSending_eq]
    · rw [Transmitter.fill_report, if_neg hc]
    · rw [Transmitter.fill_notice, if_neg hc]
    · rw [Transmitter.fill_report, if_pos hc, hf, Option.map_some, hw]
      rfl
    · rw [Transmitter.fill_report, if_pos hc, hf, Option.map_some, hm]
      simp [ReportContent.fill, ← hm]
    · rw [Transmitter.fill_notice, if_pos hc, hf]
      rfl
  · rw [State.ltx, if_neg (by simp [hlde])]
  case levels =>
    intro carried
    have hcarried (bit : Nat) : carried bit = levelAt s.transmitter.currentFrame bit := State.carried_of_sending hs bit
    refine ⟨fun bit hbit => (hcarried bit).trans (levelAt_of_past hbit), fun k o ho => ?_⟩
    obtain ⟨hstart, hdata, hstop⟩ := characterLevels_bits o
    refine ⟨?_, fun i hi => ?_, ?_⟩
    · exact (hcarried _).trans ((levelAt_of_character ho (by decide : 0 < 10)).trans hstart)
    · rw [hcarried, Nat.add_assoc]
      exact (levelAt_of_character ho (by omega)).trans (hdata i hi)
    · exact (hcarried _).trans ((levelAt_of_character ho (by decide)).trans hstop)

end Sys2Proof.Machine

/-! SUPPORT. The end of an attempt in a collision (R63, R64, R114, R134, R140 to R142). Settles O42. -/

namespace Sys2Proof.Machine

variable {s : State}

/-! ### The choice of the current frame after an attempt (R133) -/

/-- R133: the transmitter once the current frame has been chosen after an attempt on a line that has just been busy. -/
def Transmitter.chosen (t : Transmitter) : Transmitter :=
  { t with state := if t.wanted = none then .idle else .waitIdle, current := t.wanted, backoffSlots := 0 }

theorem Transmitter.chosen_state (t : Transmitter) :
    (t.report.isSome = true → t.chosen.state = .waitIdle ∧ t.chosen.current = some .report) ∧
    (t.report = none → t.notice.isSome = true → t.chosen.state = .waitIdle ∧ t.chosen.current = some .notice) ∧
    (t.report = none → t.notice = none → t.chosen.state = .idle ∧ t.chosen.current = none) := by
  unfold Transmitter.chosen
  refine ⟨fun h => ?_, fun hr hn => ?_, fun hr hn => ?_⟩
  · rw [Transmitter.wanted_report.mpr h]
    exact ⟨rfl, rfl⟩
  · rw [Transmitter.wanted_notice.mpr ⟨hr, hn⟩]
    exact ⟨rfl, rfl⟩
  · rw [Transmitter.wanted_none.mpr ⟨hr, hn⟩]
    exact ⟨rfl, rfl⟩

theorem State.chooseCurrent_afterAttempt (hs : s.transmitter.state = .idle) (hc : s.transmitter.current = none)
    (hg : s.receiver.gapTimer ≠ 4) (ht : s.transmitter.stuckTimer = 0) :
    s.chooseCurrent = { s with transmitter := s.transmitter.chosen } := by
  cases hw : s.transmitter.wanted with
  | none =>
    rw [State.chooseCurrent, if_neg (by simp [hs]), if_pos hw, Transmitter.chosen, hw, Transmitter.becomeIdle, ht]
    rfl
  | some slot =>
    rw [State.chooseCurrent_of_wanted (by simp [hs]) hw (by simp [hc]),
      State.enterWaitIdle_of_noGap (by exact hg) (by simp [ht, stuckLimit]), Transmitter.chosen, hw]
    rfl

/-! ### What a collision makes of a frame (R141, R142) -/

theorem State.reportCollision_of_expired {f : ReportSlot} (h : f.expired = true) :
    s.reportCollision f =
      { s with
        transmitter := { s.transmitter with report := none, lastFailure := .stale }
        windows :=
          { s.windows with
            closedReport := s.windows.closedReport.map fun c => { c with status := c.status.settle .stale } }
        causes := s.causes.raise .txFailure } := if_pos h

theorem State.reportCollision_of_retry {f : ReportSlot} (he : f.expired = false)
    (h : f.attempts < 7 ∨ s.expiryFollows f.content = true) :
    s.reportCollision f =
      { s with transmitter := { s.transmitter with report := some { f with attempts := min 8 (f.attempts + 1) } } } := by
  rw [State.reportCollision, if_neg (by simp [he]), if_pos]
  simpa using h.imp_left Nat.succ_lt_succ

theorem State.reportCollision_of_givenUp {f : ReportSlot} (he : f.expired = false) (ha : 7 ≤ f.attempts)
    (h : s.expiryFollows f.content = false) :
    s.reportCollision f =
      { s with
        transmitter :=
          { s.transmitter with
            report := none, giveUps := bump s.transmitter.giveUps, lastFailure := .collisionLimit }
        windows := (s.reportGivenUp f.content).windows
        causes := s.causes.raise .txFailure } := by
  rw [State.reportCollision, if_neg (by simp [he]), if_neg (by simp [h]; omega)]
  unfold State.reportGivenUp
  split <;> rfl

theorem State.noticeCollision_of_followOn {n : NoticeSlot} {a : NoticeState} (h : s.transmitter.followOn = some a) :
    s.noticeCollision n =
      { s with transmitter := { s.transmitter with notice := some (s.newNotice a), followOn := none } } := by
  rw [State.noticeCollision, h]

theorem State.noticeCollision_of_retry {n : NoticeSlot} (h : s.transmitter.followOn = none) (ha : n.attempts < 7) :
    s.noticeCollision n =
      { s with transmitter := { s.transmitter with notice := some { n with attempts := n.attempts + 1 } } } := by
  rw [State.noticeCollision, h]
  exact if_pos (by omega)

theorem State.noticeEnded_eq (a : NoticeState) :
    s.noticeEnded a =
      { s with
        station :=
          { s.station with
            state := if a = .quiet ∧ s.station.state = .quieting then .quiet else s.station.state } } := by
  unfold State.noticeEnded
  rw [State.endOfQuietNotice_eq]
  by_cases ha : a = .quiet
  · rw [if_pos ha]
    by_cases hs : s.station.state = .quieting
    · simp [ha, hs]
    · simp [hs]
  · simp [ha]

theorem State.noticeCollision_of_givenUp {n : NoticeSlot} (h : s.transmitter.followOn = none) (ha : 7 ≤ n.attempts) :
    s.noticeCollision n =
      { s with
        transmitter :=
          { s.transmitter with
            notice := none, giveUps := bump s.transmitter.giveUps, lastFailure := .collisionLimit }
        station :=
          { s.station with
            state :=
              if n.notice.announced = .quiet ∧ s.station.state = .quieting then .quiet else s.station.state }
        causes := s.causes.raise .txFailure } := by
  rw [State.noticeCollision, h]
  dsimp only
  rw [if_neg (by omega), State.noticeEnded_eq]
  rfl

theorem State.frameCollision_of_report {f : ReportSlot} (h : s.transmitter.report = some f) :
    s.frameCollision (some .report) = s.reportCollision f := by
  simp [State.frameCollision, h]

theorem State.frameCollision_of_notice {n : NoticeSlot} (h : s.transmitter.notice = some n) :
    s.frameCollision (some .notice) = s.noticeCollision n := by
  simp [State.frameCollision, h]

theorem State.reportCollision_notice (f : ReportSlot) :
    (s.reportCollision f).transmitter.notice = s.transmitter.notice ∧
    (s.reportCollision f).station = s.station := by
  unfold State.reportCollision State.expiredCollision State.giveUp State.reportGivenUp
  repeat' split
  all_goals exact ⟨by simp, by simp⟩

theorem State.noticeCollision_report (n : NoticeSlot) :
    (s.noticeCollision n).transmitter.report = s.transmitter.report ∧
    (s.noticeCollision n).windows = s.windows := by
  unfold State.noticeCollision State.giveUp
  repeat' split
  all_goals exact ⟨by simp, by simp⟩

/-- R141, R142: what the settling of a collided frame can change. -/
theorem State.frameCollision_eq (x : Option Slot) :
    s.frameCollision x =
      { s with
        transmitter := (s.frameCollision x).transmitter
        windows := (s.frameCollision x).windows
        station := { s.station with state := (s.frameCollision x).station.state }
        causes := (s.frameCollision x).causes } := by
  unfold State.frameCollision State.reportCollision State.noticeCollision State.expiredCollision State.giveUp
    State.reportGivenUp
  simp only [State.noticeEnded_eq]
  repeat' split
  all_goals rfl

theorem State.frameCollision_counts (x : Option Slot) :
    (s.frameCollision x).transmitter.framesSent = s.transmitter.framesSent ∧
    (s.frameCollision x).transmitter.collisions = s.transmitter.collisions ∧
    (s.frameCollision x).transmitter.testMode = s.transmitter.testMode ∧
    (s.frameCollision x).transmitter.testSequence = s.transmitter.testSequence := by
  unfold State.frameCollision State.reportCollision State.noticeCollision State.expiredCollision State.giveUp
    State.reportGivenUp
  simp only [State.noticeEnded_eq]
  repeat' split
  all_goals exact ⟨rfl, rfl, rfl, rfl⟩

/-! ### The end of the attempt (R114, R140) -/

/-- R114, R140: the attempt ended in a collision, its frame not yet settled. -/
def State.collided (s : State) (space : Bool) (drawn : Nat) : State :=
  { s with
    receiver :=
      { s.receiver with
        parser := if s.receiver.parser = .held then .waitGap else s.receiver.parser
        gapTimer := 0, charInProgress := false, lrxAtSpace := space }
    transmitter :=
      { s.transmitter with
        state := .idle, current := none, readBack := .matched 0, collisions := bump s.transmitter.collisions }
    freeCount := drawn }

theorem State.collide_of_differed (h : s.transmitter.readBack = .differed) :
    s.collide =
      ((s.collided s.receiver.lrxAtSpace s.freeCount).frameCollision s.transmitter.current).chooseCurrent := by
  have hread : s.readColliding = s := by rw [State.readColliding, h]
  rw [State.collide, hread]
  rfl

/-- R140: the octet that collides, read back. -/
theorem State.readColliding_of_matched {n : Nat} {sent : Octet} (h : s.transmitter.readBack = .matched n)
    (hs : s.transmitter.state = .sending) (hsent : s.transmitter.currentFrame[n]? = some sent) :
    s.readColliding =
      { s.character (s.collidingCharacter sent).1 (s.collidingCharacter sent).2 with freeCount := s.freeCount + 1 } := by
  have hoctet : s.octetsSent[n]? = some sent := by rw [State.octetsSent, if_pos hs, hsent]
  simp only [State.readColliding, h, hoctet]

/-- R114: with the parser held the octet that collides is heard by the transmitter alone. -/
theorem State.collide_of_held {n : Nat} {sent : Octet} (h : s.transmitter.readBack = .matched n)
    (hs : s.transmitter.state = .sending) (hsent : s.transmitter.currentFrame[n]? = some sent)
    (hp : s.receiver.parser = .held) :
    ∃ space, s.collide =
      ((s.collided space (s.freeCount + 1)).frameCollision s.transmitter.current).chooseCurrent := by
  refine ⟨if s.transmitter.testMode = .internal then s.receiver.lrxAtSpace else !(s.collidingCharacter sent).2, ?_⟩
  rw [State.collide, State.readColliding_of_matched h hs hsent, State.character_eq (by simp [hp])]
  congr 2
  simp [State.endAttempt, State.collided, Receiver.takeOctet, hp, hs]

/-- R114, R140: a collision of which the parser hears nothing: its octet was read back before, or the parser is held. -/
theorem State.collide_unheard (hs : s.transmitter.state = .sending)
    (hheld : s.transmitter.readBack ≠ .differed → s.receiver.parser = .held)
    (hsent : s.transmitter.readBack ≠ .differed →
      ∃ n sent, s.transmitter.readBack = .matched n ∧ s.transmitter.currentFrame[n]? = some sent) :
    ∃ space drawn,
      s.collide = ((s.collided space drawn).frameCollision s.transmitter.current).chooseCurrent ∧
      (s.transmitter.readBack = .differed → space = s.receiver.lrxAtSpace ∧ drawn = s.freeCount) := by
  by_cases hd : s.transmitter.readBack = .differed
  · exact ⟨_, _, State.collide_of_differed hd, fun _ => ⟨rfl, rfl⟩⟩
  · obtain ⟨n, sent, hm, hsome⟩ := hsent hd
    obtain ⟨space, hspace⟩ := State.collide_of_held hm hs hsome (hheld hd)
    exact ⟨space, _, hspace, fun h => absurd h hd⟩

theorem exec_txCollision (hr : s.rstnHigh = true) (hc : s.transmitter.canCollide = true) :
    exec .txCollision s = .next s.collide := by
  rw [exec_of_eventEffect (c := .txCollision) rfl, takeEvent_of_high hr, if_pos hc]

theorem Transmitter.canCollide_of_differed {t : Transmitter} (hs : t.state = .sending) (hm : t.testMode ≠ .internal)
    (h : t.readBack = .differed) : t.canCollide = true := by
  simp [Transmitter.canCollide, Transmitter.readBackWhole, hs, hm, h]

theorem Transmitter.canCollide_of_matched {t : Transmitter} (hs : t.state = .sending) (hm : t.testMode ≠ .internal) {n : Nat}
    (h : t.readBack = .matched n) (hn : n < t.currentFrame.length) : t.canCollide = true := by
  simp [Transmitter.canCollide, Transmitter.readBackWhole, hs, hm, h, hn]

/-! ### Where the octet that collides has not been read back yet (log entry 33) -/

theorem State.frameCollision_freeCount (x : Option Slot) (n : Nat) :
    { s with freeCount := n }.frameCollision x = { s.frameCollision x with freeCount := n } := by
  rw [State.frameCollision_eq x, State.frameCollision_eq (s := { s with freeCount := n }) x]
  have hnotice (a : NoticeState) : { s with freeCount := n }.newNotice a = s.newNotice a := rfl
  have hexpiry (c : ReportContent) : { s with freeCount := n }.expiryFollows c = s.expiryFollows c := rfl
  unfold State.frameCollision State.reportCollision State.noticeCollision State.expiredCollision State.giveUp
    State.reportGivenUp
  simp only [State.noticeEnded_eq, hnotice, hexpiry]
  repeat' split
  all_goals rfl

theorem State.chooseCurrent_freeCount (n : Nat) :
    { s with freeCount := n }.chooseCurrent = { s.chooseCurrent with freeCount := n } := by
  unfold State.chooseCurrent State.enterWaitIdle State.reportStuck
  repeat' split
  all_goals rfl

theorem State.collide_freeCount (h : s.transmitter.readBack = .differed) (n : Nat) :
    { s with freeCount := n }.collide = { s.collide with freeCount := n } := by
  rw [State.collide_of_differed h, State.collide_of_differed (s := { s with freeCount := n }) h]
  rw [← State.chooseCurrent_freeCount, ← State.frameCollision_freeCount]
  rfl

/-- R140: an octet that differs, told as LINE_OCTET_RECEIVED, and TX_COLLISION after it make the same collision. -/
theorem State.collide_of_matched {n : Nat} {sent : Octet} (h : s.transmitter.readBack = .matched n)
    (hs : s.transmitter.state = .sending) (hsent : s.transmitter.currentFrame[n]? = some sent) :
    ∃ o b, (s.character o b).transmitter.readBack = .differed ∧
      s.collide = { (s.character o b).collide with freeCount := s.freeCount + 1 } := by
  set o := (s.collidingCharacter sent).1
  set b := (s.collidingCharacter sent).2
  have hafter : (s.character o b).transmitter = { s.transmitter with readBack := .differed } := by
    rw [State.character_transmitter hs, Transmitter.readOctet, if_pos hs, Transmitter.compare, h]
    simp only [hsent]
    rw [if_neg (s.collidingCharacter_collides sent)]
  have hdiffered : (s.character o b).transmitter.readBack = .differed := by rw [hafter]
  have hread : { s.character o b with freeCount := s.freeCount + 1 }.readColliding =
      { s.character o b with freeCount := s.freeCount + 1 } := by rw [State.readColliding, hdiffered]
  refine ⟨o, b, hdiffered, ?_⟩
  rw [← State.collide_freeCount hdiffered, State.collide, State.collide, hread,
    State.readColliding_of_matched h hs hsent, hafter]

/-- R141, R142: the frame settled, the current frame is chosen again on a line that has just been busy. -/
theorem State.chooseCurrent_afterCollision (ht : s.transmitter.stuckTimer = 0) (space : Bool) (drawn : Nat)
    (x : Option Slot) :
    let r := (s.collided space drawn).frameCollision x
    r.chooseCurrent = { r with transmitter := r.transmitter.chosen } := by
  intro r
  have hrest : SameRest (s.collided space drawn) r := State.frameCollision_rest x
  have hreceiver : r.receiver = (s.collided space drawn).receiver := by simp [r]
  refine State.chooseCurrent_afterAttempt (hrest.state.trans rfl) (hrest.current.trans rfl) ?_ (hrest.stuckTimer.trans ht)
  simp [hreceiver, State.collided]

/-- Settles O42: a collision settles the frame in transmission by its own rule, after which the current frame is chosen
again; the octet that collides is read back first where none has differed. -/
theorem attemptCollides : Obligations.AttemptCollides := by
  intro s hr hline hreceiver hs hmode hread x settled awaited
  have hon : s.receiverOn = true := hreceiver.attempt (.inr hs)
  have hcan : s.transmitter.canCollide = true := by
    rcases hread with hd | ⟨n, hm, hn⟩
    · exact Transmitter.canCollide_of_differed hs hmode hd
    · exact Transmitter.canCollide_of_matched hs hmode hm hn
  have hsent (hd : x.readBack ≠ .differed) : ∃ n sent, x.readBack = .matched n ∧ x.currentFrame[n]? = some sent := by
    obtain ⟨n, hm, hn⟩ := hread.resolve_left hd
    exact ⟨n, _, hm, List.getElem?_eq_getElem hn⟩
  obtain ⟨ht, -⟩ := (lineQueueOk_iff s).mp hline
  have hstuck : x.stuckTimer = 0 := ht.timers.stuck.2 (by simp [hs])
  refine ⟨fun hext hd => ?_, fun hheld => ?_⟩
  · obtain ⟨n, sent, hm, hsome⟩ := hsent hd
    obtain ⟨o, b, hdiffered, hcollide⟩ := State.collide_of_matched hm hs hsome
    have hafter := s.character_transmitter hs o b
    refine ⟨o, b, s.character o b, (s.character o b).collide, ?_, hdiffered, ?_, ?_⟩
    · rw [exec_lineOctetReceived hr]
      rw [State.sourceCharacter, if_neg (by simp [hon]), if_neg hmode]
    · refine exec_txCollision (by simpa using hr) (Transmitter.canCollide_of_differed ?_ ?_ hdiffered)
      · rw [hafter]
        simpa using hs
      · rw [hafter]
        simpa using hmode
    · rw [exec_txCollision hr hcan, hcollide]
  · have hparser : s.receiver.parser = .held ↔ x.testMode = .off := by
      rw [hreceiver.held]
      exact and_iff_right hs
    obtain ⟨space, drawn, hcollide, hdrawn⟩ :=
      State.collide_unheard hs (fun hd => hparser.mpr (hheld.resolve_right hd)) hsent
    rw [exec_txCollision hr hcan, hcollide, State.chooseCurrent_afterCollision hstuck]
    obtain ⟨v, hv⟩ : ∃ v, v = s.collided space drawn := ⟨_, rfl⟩
    obtain ⟨r, hsettled⟩ : ∃ r, r = v.frameCollision x.current := ⟨_, rfl⟩
    have hrest : r = _ := hsettled.trans (v.frameCollision_eq x.current)
    have hraised : CauseUnit.RaisedFrom {.txFailure} s.causes r.causes := by
      rw [hsettled]
      exact State.frameCollision_raised (.of_eq (by rw [hv]; rfl)) (Set.mem_singleton _)
    obtain ⟨hreport, hnotice, hnone⟩ := r.transmitter.chosen_state
    obtain ⟨hframes, hcollisions, htest, hsequence⟩ := v.frameCollision_counts x.current
    rw [← hsettled] at hrest hframes hcollisions htest hsequence
    rw [← hv, ← hsettled]
    refine ⟨r.transmitter.chosen, r.windows, r.station.state, r.causes, space, drawn, ?_, hdrawn, ?_, ?_, ?_, ?_,
      hcollisions.trans (by rw [hv]; rfl), hframes.trans (by rw [hv]; rfl), htest.trans (by rw [hv]; rfl),
      hsequence.trans (by rw [hv]; rfl), hreport, hnotice, hnone, fun hc f hf => ?_, fun hc f hf => ?_⟩
    · have hchosen : { r with transmitter := r.transmitter.chosen } = { v with
          transmitter := r.transmitter.chosen, windows := r.windows
          station := { v.station with state := r.station.state }, causes := r.causes } := by
        conv_lhs => rw [hrest]
      rw [hchosen, hv]
      simp only [State.collided, hparser]
    · exact fun c hc => hraised.other hc
    · exact hraised.controls.1
    · exact hraised.controls.2.1
    · exact hraised.controls.2.2
    · have hslot : v.transmitter.report = some f := by rw [hv]; exact hf
      have hcollision : r = v.reportCollision f := by rw [hsettled, hc, State.frameCollision_of_report hslot]
      obtain ⟨hn, hst⟩ := v.reportCollision_notice f
      rw [← hcollision] at hn hst
      have hfollows : awaited f.content ↔ v.expiryFollows f.content = true := by
        rw [hv]
        exact (State.expiryFollows_iff s f.content).symm
      refine ⟨hn.trans (by rw [hv]; rfl), (congrArg _ hst).trans (by rw [hv]; rfl), fun he => ?_, fun he ha => ?_,
        fun he ha haw => ?_, fun he ha haw => ?_⟩
      · rw [hcollision, State.reportCollision_of_expired he, hv]
        exact ⟨rfl, rfl, rfl, by simp [CauseUnit.flagOf_raise], rfl⟩
      · rw [hcollision, State.reportCollision_of_retry he (.inl ha), min_eq_right (by omega), hv]
        exact ⟨rfl, rfl, rfl, rfl, rfl⟩
      · rw [hcollision, State.reportCollision_of_retry he (.inr (hfollows.mp haw)), min_eq_left (by omega), hv]
        exact ⟨rfl, rfl, rfl, rfl, rfl⟩
      · rw [hcollision, State.reportCollision_of_givenUp he ha (by simpa using mt hfollows.mpr haw), hv]
        refine ⟨rfl, rfl, rfl, by simp [CauseUnit.flagOf_raise], fun n hcontent => ?_, fun q hcontent => ?_⟩
        · rw [hcontent]
          rfl
        · rw [hcontent]
          rfl
    · have hslot : v.transmitter.notice = some f := by rw [hv]; exact hf
      have hcollision : r = v.noticeCollision f := by rw [hsettled, hc, State.frameCollision_of_notice hslot]
      obtain ⟨hrep, hw⟩ := v.noticeCollision_report f
      rw [← hcollision] at hrep hw
      have hfollow : v.transmitter.followOn = x.followOn := by rw [hv]; rfl
      refine ⟨hrep.trans (by rw [hv]; rfl), hw.trans (by rw [hv]; rfl), fun a ha => ?_, fun hn ha => ?_, fun hn ha => ?_⟩
      · rw [hcollision, State.noticeCollision_of_followOn (hfollow.trans ha), hv]
        exact ⟨rfl, rfl, rfl, rfl, _, rfl, rfl, rfl⟩
      · rw [hcollision, State.noticeCollision_of_retry (hfollow.trans hn) ha, hv]
        exact ⟨rfl, rfl, rfl, rfl⟩
      · rw [hcollision, State.noticeCollision_of_givenUp (hfollow.trans hn) ha, hv]
        exact ⟨rfl, rfl, rfl, by simp [CauseUnit.flagOf_raise], rfl⟩

end Sys2Proof.Machine

/-! SUPPORT. The end of an attempt in success (R58, R63, R114, R124, R134, R142, R170). Settles O43. -/

namespace Sys2Proof.Machine

variable {s : State}

/-! ### What a success makes of a frame (R134, R142) -/

theorem State.reportSent_notice (f : ReportSlot) :
    (s.reportSent f).transmitter = { s.transmitter with report := none } ∧ (s.reportSent f).station = s.station := by
  unfold State.reportSent State.settleReport
  repeat' split
  all_goals exact ⟨rfl, rfl⟩

theorem State.reportSent_of_windowReport {f : ReportSlot} {q : WindowReport} (h : f.content = .windowReport q) :
    s.reportSent f =
      { s with transmitter := { s.transmitter with report := none } }.settleReport f.expired .sent := by
  simp only [State.reportSent, h]

theorem State.reportSent_of_lineTest {f : ReportSlot} {n : Nat} (h : f.content = .lineTest n) :
    s.reportSent f = { s with transmitter := { s.transmitter with report := none } } := by
  simp only [State.reportSent, h]

theorem State.noticeSent_eq (n : NoticeSlot) :
    s.noticeSent n =
      { s with
        transmitter :=
          { s.transmitter with notice := s.transmitter.followOn.map fun a => s.newNotice a, followOn := none }
        station :=
          { s.station with
            state :=
              if n.notice.announced = .quiet ∧ s.station.state = .quieting then .quiet else s.station.state } } :=
  State.noticeEnded_eq n.notice.announced

theorem State.frameSent_of_report {f : ReportSlot} (h : s.transmitter.report = some f) :
    s.frameSent (some .report) = s.reportSent f := by
  simp [State.frameSent, h]

theorem State.frameSent_of_notice {n : NoticeSlot} (h : s.transmitter.notice = some n) :
    s.frameSent (some .notice) = s.noticeSent n := by
  simp [State.frameSent, h]

/-- R142: what the settling of a sent frame can change. -/
theorem State.frameSent_eq (x : Option Slot) :
    s.frameSent x =
      { s with
        transmitter := (s.frameSent x).transmitter
        windows := (s.frameSent x).windows
        station := { s.station with state := (s.frameSent x).station.state } } := by
  unfold State.frameSent State.reportSent State.settleReport
  simp only [State.noticeSent_eq]
  repeat' split
  all_goals rfl

theorem State.frameSent_counts (x : Option Slot) :
    (s.frameSent x).transmitter.framesSent = s.transmitter.framesSent ∧
    (s.frameSent x).transmitter.collisions = s.transmitter.collisions ∧
    (s.frameSent x).transmitter.giveUps = s.transmitter.giveUps ∧
    (s.frameSent x).transmitter.lastFailure = s.transmitter.lastFailure := by
  unfold State.frameSent State.reportSent State.settleReport
  simp only [State.noticeSent_eq]
  repeat' split
  all_goals exact ⟨rfl, rfl, rfl, rfl⟩

/-! ### The end of the attempt (R114, R142) -/

/-- R114, R142: the attempt ended in success with its last octet's stop bit at mark, its frame not yet settled. -/
def State.carriedOff (s : State) : State :=
  { s with
    receiver :=
      { s.receiver with
        parser := if s.receiver.parser = .held then .waitGap else s.receiver.parser
        gapTimer := 0, charInProgress := false
        lrxAtSpace := if s.transmitter.testMode = .internal then s.receiver.lrxAtSpace else false }
    transmitter :=
      { s.transmitter with
        state := .idle, current := none, readBack := .matched 0, framesSent := bump s.transmitter.framesSent } }

theorem State.succeed_of_readBack {r : Receiver} {read : ReadBack}
    (h : s.readBackRest = { s with receiver := r, transmitter := { s.transmitter with readBack := read } }) :
    s.succeed =
      ({ s with receiver := r }.carriedOff.frameSent s.transmitter.current).chooseCurrent := by
  rw [State.succeed, h]
  rfl

theorem State.chooseCurrent_afterSuccess (ht : s.transmitter.stuckTimer = 0) (x : Option Slot) :
    let r := s.carriedOff.frameSent x
    r.chooseCurrent = { r with transmitter := r.transmitter.chosen } := by
  intro r
  have hrest : SameRest s.carriedOff r := State.frameSent_rest x
  have hreceiver : r.receiver = s.carriedOff.receiver := by simp [r]
  refine State.chooseCurrent_afterAttempt (hrest.state.trans rfl) (hrest.current.trans rfl) ?_ (hrest.stuckTimer.trans ht)
  simp [hreceiver, State.carriedOff]

theorem exec_txSuccess (hr : s.rstnHigh = true) (hs : s.transmitter.state = .sending)
    (hd : s.transmitter.readBack ≠ .differed) : exec .txSuccess s = .next s.succeed := by
  have hcan : s.transmitter.canSucceed = true := by simp [Transmitter.canSucceed, hs, hd]
  rw [exec_of_eventEffect (c := .txSuccess) rfl, takeEvent_of_high hr, if_pos hcan]

theorem Transmitter.chosen_rests (t : Transmitter) : t.chosen.state ≠ .sending := by
  unfold Transmitter.chosen
  split <;> simp

theorem Transmitter.chosen_of_empty {t : Transmitter} (hr : t.report = none) (hn : t.notice = none) :
    t.chosen = { t with state := .idle, current := none, backoffSlots := 0 } := by
  rw [Transmitter.chosen, Transmitter.wanted_none.mpr ⟨hr, hn⟩]
  rfl

/-! ### An uncommissioned station reads its Line Test back (R114, R124, R140) -/

/-- R125: in UNCONFIGURED a frame is counted by the receiver and goes no further. -/
theorem State.dispatch_unconfigured (hu : s.station.state = .unconfigured) (kind : Octet) (payload : List Octet) :
    ∃ r, s.dispatch kind payload = { s with receiver := r } := by
  by_cases hk : kind = 0x3F
  · rw [hk, State.dispatch_of_lineTest]
    unfold State.dispatchLineTest
    repeat' split
    all_goals exact ⟨_, rfl⟩
  · exact ⟨_, State.dispatch_of_unconfigured hk hu payload⟩

theorem State.judgeWaiting_unconfigured (hu : s.station.state = .unconfigured) :
    ∃ r, s.judgeWaiting = { s with receiver := r } := by
  unfold State.judgeWaiting State.judge
  split
  · split
    · obtain ⟨r, hr⟩ := State.dispatch_unconfigured
        (s := { s with receiver := { s.receiver with parser := .afterFrame, frame := [] } }) hu
        (octetAt s.receiver.frame 1) (framePayload s.receiver.frame)
      exact ⟨r, hr⟩
    · exact ⟨_, rfl⟩
  · exact ⟨s.receiver, rfl⟩

theorem State.impliedStartBit_line (s : State) :
    ∃ r x, s.impliedStartBit = { s with receiver := r, transmitter := x } := by
  unfold State.impliedStartBit
  split
  · exact ⟨s.receiver, s.transmitter, rfl⟩
  · exact ⟨_, _, rfl⟩

/-- R116, R140: once the frame that waits has been judged, a character changes the receiver and the transmitter alone. -/
theorem State.character_line (s : State) (o : Octet) (b : Bool) :
    ∃ r x, s.character o b = { s.judgeWaiting with receiver := r, transmitter := x } := by
  obtain ⟨r, x, hstart⟩ := s.judgeWaiting.impliedStartBit_line
  unfold State.character
  rw [hstart]
  exact ⟨_, _, rfl⟩

/-- R116, R140: outside a commissioned station a character of the attempt changes the receiver and the read-back alone. -/
theorem State.character_unconfigured (hs : s.transmitter.state = .sending) (hu : s.station.state = .unconfigured) (o : Octet)
    (b : Bool) :
    ∃ r, s.character o b =
      { s with receiver := r, transmitter := { s.transmitter with readBack := s.transmitter.compare o b } } := by
  obtain ⟨r, hr⟩ := s.judgeWaiting_unconfigured hu
  obtain ⟨q, x, hq⟩ := s.character_line o b
  have hx : x = { s.transmitter with readBack := s.transmitter.compare o b } :=
    calc x = (s.character o b).transmitter := by rw [hq]
      _ = s.transmitter.readOctet o b := s.character_transmitter hs o b
      _ = _ := if_pos hs
  exact ⟨q, by rw [hq, hx, hr]⟩

theorem State.readBackRest_unconfigured (hs : s.transmitter.state = .sending) (hu : s.station.state = .unconfigured) :
    ∃ r read, s.readBackRest = { s with receiver := r, transmitter := { s.transmitter with readBack := read } } := by
  unfold State.readBackRest
  split
  · exact ⟨s.receiver, s.transmitter.readBack, rfl⟩
  · generalize s.transmitter.octetsLeft = l
    induction l generalizing s with
    | nil => exact ⟨s.receiver, s.transmitter.readBack, rfl⟩
    | cons o l ih =>
      obtain ⟨r, hr⟩ := s.character_unconfigured hs hu o true
      obtain ⟨q, read, hq⟩ := ih (s := s.character o true) (by rw [hr]; exact hs) (by rw [hr]; exact hu)
        (by rw [hr]; assumption)
      refine ⟨q, read, hq.trans ?_⟩
      rw [hr]

/-! ### The Line Test heard from READY (R116, R124) -/

/-- R116: of the octets of a Line Test of the station's own, a receiver has heard the first from READY on. -/
structure Hearing (s t : State) (heard : List Octet) : Prop where
  sending : t.transmitter.state = .sending
  parser : t.receiver.parser = .inFrame
  frame : t.receiver.frame = heard
  arrival : t.receiver.arrivalSecond = s.timebase.secondOfDay
  errors : t.receiver.errors = s.receiver.errors
  echoes : t.receiver.testEchoes = s.receiver.testEchoes

theorem Hearing.of_lead (hs : s.transmitter.state = .sending) (hp : s.receiver.parser = .ready) :
    Hearing s (s.character 0xC3 true) [0xC3] := by
  rw [State.character_eq (by simp [hp])]
  constructor
  all_goals simp [Receiver.takeOctet, hp, hs, leadOctet]

theorem Hearing.next {t : State} {heard : List Octet} (h : Hearing s t heard) (hwaits : frameComplete heard = false) {o : Octet}
    (hfits : structureFails (heard ++ [o]) = false) : Hearing s (t.character o true) (heard ++ [o]) := by
  obtain ⟨hs, hp, hf, harrival, herrors, hechoes⟩ := h
  have htaken : t.receiver.takeOctet t.timebase.secondOfDay o true = { t.receiver with frame := heard ++ [o] } := by
    simp [Receiver.takeOctet, hp, hf, hfits]
  rw [State.character_eq (by rw [hf]; exact fun _ => hwaits), htaken]
  constructor
  case sending => simp [hs]
  case frame => rfl
  all_goals assumption

/-- R117, R120: after the length octet of a Line Test ten octets more complete it, whatever they are. -/
theorem Hearing.rest {t : State} {l heard : List Octet} (h : Hearing s t (0xC3 :: 0x3F :: 0x08 :: heard))
    (hl : heard.length + l.length = 10) :
    Hearing s (l.foldl (fun (t : State) o => t.character o true) t) (0xC3 :: 0x3F :: 0x08 :: (heard ++ l)) := by
  induction l generalizing t heard with
  | nil => simpa using h
  | cons o l ih =>
    have hlength : heard.length < 10 := by
      rw [List.length_cons] at hl
      omega
    have hkind : payloadLength 0x3F = some 8 := rfl
    have hwaits : frameComplete (0xC3 :: 0x3F :: 0x08 :: heard) = false := by
      change ((payloadLength 0x3F).map (fun n => n + 5) == some (heard.length + 3)) = false
      rw [hkind]
      simp
      omega
    have hfits : structureFails (0xC3 :: 0x3F :: 0x08 :: heard ++ [o]) = false := by cases heard <;> rfl
    have hnext := ih (heard := heard ++ [o]) (h.next hwaits hfits) (by simp at hl ⊢; omega)
    rwa [List.append_assoc] at hnext

theorem lineTestPayload_length (n : Nat) : (lineTestPayload n).length = 8 := by
  simp [lineTestPayload, testPattern]

theorem lineTestWellFormed_lineTestPayload (n : Nat) : lineTestWellFormed (lineTestPayload n) = true := by
  simp [lineTestWellFormed, lineTestPayload, octets_two, testPattern, octetAt]

theorem fieldAt_lineTestPayload (n : Nat) : fieldAt (lineTestPayload n) 1 2 = n % 65536 := by
  rw [lineTestPayload, List.cons_append, fieldAt_cons _ _ _ _ le_rfl, fieldAt_append_left _ _ _ _ (by simp)]
  exact fieldAt_octets 2 n

/-- R114, R124: the whole attempt of a Line Test, heard from READY, stands in the parser. -/
theorem Hearing.whole (hs : s.transmitter.state = .sending) (hp : s.receiver.parser = .ready)
    (ht : s.transmitter.testMode ≠ .off) (hm : s.transmitter.readBack = .matched 0) {n : Nat}
    (hf : s.transmitter.currentFrame = frameOctets 0x3F (lineTestPayload n)) :
    Hearing s s.readBackRest (frameOctets 0x3F (lineTestPayload n)) := by
  have hleft : s.transmitter.octetsLeft = frameOctets 0x3F (lineTestPayload n) := by
    simp only [Transmitter.octetsLeft, hm, hf, List.drop_zero]
  have hframe : ∃ l, l.length = 10 ∧ frameOctets 0x3F (lineTestPayload n) = 0xC3 :: 0x3F :: 0x08 :: l := by
    refine ⟨lineTestPayload n ++ octets 2 (crc16 (0x3F :: 0x08 :: lineTestPayload n)).toNat, ?_, ?_⟩
    · simp [lineTestPayload_length]
    · rw [frameOctets_eq, lineTestPayload_length]
      rfl
  obtain ⟨l, hl, hl'⟩ := hframe
  rw [State.readBackRest, if_neg ht, hleft, hl']
  have hlead := Hearing.of_lead hs hp
  have hkind := hlead.next (o := 0x3F) rfl rfl
  have hlength := hkind.next (o := 0x08) rfl rfl
  exact hlength.rest (heard := []) (by simpa using hl)

/-- R142: a Line Test sent leaves an empty queue; of the receiver a success changes what the read-back does, its timer, its
mark and LRX. -/
theorem State.succeed_lineTest (hline : LineQueueOk s) (hs : s.transmitter.state = .sending)
    (hu : s.station.state = .unconfigured) (hc : s.transmitter.current = some .report) :
    s.succeed =
      { s with
        receiver := { s with receiver := s.readBackRest.receiver }.carriedOff.receiver
        transmitter :=
          { s.transmitter with
            state := .idle, report := none, current := none, backoffSlots := 0, readBack := .matched 0
            framesSent := bump s.transmitter.framesSent } } := by
  obtain ⟨ht, hslots⟩ := (lineQueueOk_iff s).mp hline
  obtain ⟨f, hf⟩ := Option.isSome_iff_exists.mp (ht.reportCurrent hc)
  have hn : s.transmitter.notice = none := hslots.noticeKind hu
  obtain ⟨r, read, hread⟩ := s.readBackRest_unconfigured hs hu
  have hreceiver : s.readBackRest.receiver = r := by rw [hread]
  obtain ⟨n, hcontent⟩ : ∃ n, f.content = .lineTest n := by
    have hsuits := hslots.reportKind f hf
    cases hcontent : f.content with
    | windowReport q => exact absurd hu (by simpa [hcontent, ReportContent.suits] using hsuits)
    | lineTest n => exact ⟨n, rfl⟩
  have hsent := (State.frameSent_of_report (s := { s with receiver := r }.carriedOff) (f := f) hf).trans
    (State.reportSent_of_lineTest hcontent)
  rw [State.succeed_of_readBack hread, State.chooseCurrent_afterSuccess (by exact ht.timers.stuck.2 (by simp [hs])), hc,
    hreceiver, hsent, Transmitter.chosen_of_empty (by rfl) (by exact hn)]
  rfl

/-- Settles O43: a success settles the frame in transmission by its own rule, after which the current frame is chosen again;
in a line-test mode the octets not yet read back reach the parser first. -/
theorem attemptSucceeds : Obligations.AttemptSucceeds := by
  intro s hr hline hs hd x sent
  rw [exec_txSuccess hr hs hd]
  obtain ⟨ht, hslots⟩ := (lineQueueOk_iff s).mp hline
  have hstuck : x.stuckTimer = 0 := ht.timers.stuck.2 (by simp [hs])
  refine ⟨fun hoff => ?off, fun hmode hu hc => ?test⟩
  case off =>
    have hread : s.readBackRest = s := if_pos hoff
    have hreceiver : s.carriedOff.receiver =
        { s.receiver with
          parser := if s.receiver.parser = .held then .waitGap else s.receiver.parser
          gapTimer := 0, charInProgress := false, lrxAtSpace := false } := by
      simp [State.carriedOff, show s.transmitter.testMode = .off from hoff]
    rw [State.succeed_of_readBack hread, State.chooseCurrent_afterSuccess hstuck]
    obtain ⟨v, hv⟩ : ∃ v, v = s.carriedOff := ⟨_, rfl⟩
    obtain ⟨r, hsettled⟩ : ∃ r, r = v.frameSent x.current := ⟨_, rfl⟩
    have hrest : r = _ := hsettled.trans (v.frameSent_eq x.current)
    obtain ⟨hframes, hcollisions, hgiveUps, hfailure⟩ := v.frameSent_counts x.current
    rw [← hsettled] at hrest hframes hcollisions hgiveUps hfailure
    rw [← hv, ← hsettled]
    refine ⟨r.transmitter.chosen, r.windows, r.station.state, ?_, hframes.trans (by rw [hv]; rfl),
      hcollisions.trans (by rw [hv]; rfl), hgiveUps.trans (by rw [hv]; rfl), hfailure.trans (by rw [hv]; rfl),
      r.transmitter.chosen_rests, fun hc f hf => ?report, fun hc f hf => ?notice⟩
    · have hchosen : { r with transmitter := r.transmitter.chosen } = { v with
          transmitter := r.transmitter.chosen, windows := r.windows
          station := { v.station with state := r.station.state } } := by
        conv_lhs => rw [hrest]
      rw [hchosen, hv, hreceiver]
      rfl
    case report =>
      have hslot : v.transmitter.report = some f := by rw [hv]; exact hf
      have hsent : r = v.reportSent f := by rw [hsettled, hc, State.frameSent_of_report hslot]
      obtain ⟨htransmitter, hstation⟩ := v.reportSent_notice f
      rw [← hsent] at htransmitter hstation
      refine ⟨congrArg Transmitter.report htransmitter, (congrArg Transmitter.notice htransmitter).trans (by rw [hv]; rfl),
        (congrArg _ hstation).trans (by rw [hv]; rfl), fun q hcontent he => ?_, fun q hcontent he => ?_, fun n hcontent => ?_⟩
      · rw [hsent, State.reportSent_of_windowReport hcontent, he, hv]
        rfl
      · rw [hsent, State.reportSent_of_windowReport hcontent, he, hv]
        rfl
      · rw [hsent, State.reportSent_of_lineTest hcontent, hv]
        rfl
    case notice =>
      have hslot : v.transmitter.notice = some f := by rw [hv]; exact hf
      have hsent : r = _ := (hsettled.trans (by rw [hc, State.frameSent_of_notice hslot])).trans (v.noticeSent_eq f)
      have hfollow : v.transmitter.followOn = x.followOn := by rw [hv]; rfl
      rw [hsent]
      refine ⟨by rw [hv]; rfl, by rw [hv]; rfl, rfl, fun hn => ?_, fun a ha => ?_, by rw [hv]; rfl⟩
      · exact congrArg (Option.map _) (hfollow.trans hn)
      · exact ⟨_, congrArg (Option.map _) (hfollow.trans ha), rfl, rfl⟩
  case test =>
    rw [s.succeed_lineTest hline hs hu hc]
    refine ⟨_, rfl, rfl, rfl, rfl, rfl, rfl, rfl, rfl, fun hp hm f n hf hcontent => ?_⟩
    have hframe : s.transmitter.currentFrame = frameOctets 0x3F (lineTestPayload n) := by
      rw [Transmitter.currentFrame, hc]
      simp only [show s.transmitter.report = some f from hf, Option.map_some, Option.getD_some, hcontent]
      rfl
    obtain ⟨-, hin, hheard, harrival, herrors, hechoes⟩ := Hearing.whole hs hp hmode hm hframe
    have hparser : { s with receiver := s.readBackRest.receiver }.carriedOff.receiver.parser = .inFrame := by
      simp [State.carriedOff, hin]
    refine ⟨hparser, hheard, harrival, herrors, ?_⟩
    refine (exec_frameReceived_of_frame (kind := 0x3F) (payload := lineTestPayload n) ?_ ?_ ?_ ?_).trans (congrArg _ ?_)
    · exact hr
    · exact hparser
    · rw [lineTestPayload_length]
      rfl
    · exact hheard
    · rw [State.dispatch_of_lineTest, State.dispatchLineTest, if_neg (by rw [lineTestWellFormed_lineTestPayload]; decide)]
      refine (if_neg (by exact hmode)).trans ?_
      rw [fieldAt_lineTestPayload, ← hechoes]
      rfl

end Sys2Proof.Machine

/-! SUPPORT. A grace expiry and the Window Report of its window (R30, R62 to R65, R143). Settles O28. -/

namespace Sys2Proof.Machine

variable {s : State}

/-! ### The choice of a notice left alone (R133, R143) -/

/-- R143: entering WAIT_IDLE reports nothing stuck on an idle line, before 2 s, or a second time. -/
theorem State.enterWaitIdle_unstuck
    (h : s.receiver.gapTimer = 4 ∨ s.transmitter.stuckTimer < stuckLimit ∨ s.transmitter.currentStuckReported = true) :
    s.enterWaitIdle.transmitter.lastFailure = s.transmitter.lastFailure ∧
    s.enterWaitIdle.transmitter.notice = s.transmitter.notice := by
  by_cases hg : s.receiver.gapTimer = 4
  · rw [State.enterWaitIdle_backoff hg]
    exact ⟨rfl, rfl⟩
  · rw [State.enterWaitIdle, if_neg hg]
    rcases h.resolve_left hg with hbelow | hreported
    · rw [State.reportStuck_of_below (by exact hbelow)]
      exact ⟨rfl, rfl⟩
    · rw [State.reportStuck_of_reported (by exact hreported)]
      exact ⟨rfl, rfl⟩

/-- R133, R143: with no report the choice leaves the notice and the last failure, unless a waiting notice is stuck. -/
theorem State.chooseCurrent_unstuck (hr : s.transmitter.report = none)
    (h : s.transmitter.notice = none ∨ s.transmitter.stuckTimer < stuckLimit ∨ s.receiver.gapTimer = 4 ∨
      s.transmitter.state = .sending ∨ ∃ n, s.transmitter.notice = some n ∧ n.stuckReported = true) :
    s.chooseCurrent.transmitter.lastFailure = s.transmitter.lastFailure ∧
    s.chooseCurrent.transmitter.notice = s.transmitter.notice := by
  by_cases hs : s.transmitter.state = .sending
  · rw [State.chooseCurrent, if_pos hs]
    exact ⟨rfl, rfl⟩
  rw [State.chooseCurrent, if_neg hs]
  split
  · exact ⟨rfl, rfl⟩
  split
  · exact ⟨rfl, rfl⟩
  next hwanted _ =>
    have hn : s.transmitter.notice ≠ none := fun hn => hwanted (Transmitter.wanted_none.mpr ⟨hr, hn⟩)
    have hnotice := Transmitter.wanted_notice.mpr ⟨hr, Option.isSome_iff_ne_none.mpr hn⟩
    refine State.enterWaitIdle_unstuck ?_
    rcases (h.resolve_left hn) with hbelow | hgap | hsending | ⟨n, hn, hreported⟩
    · exact .inr (.inl hbelow)
    · exact .inl hgap
    · exact absurd hsending hs
    · refine .inr (.inr ?_)
      simp [Transmitter.currentStuckReported, hnotice, hn, hreported]

/-! ### The report withdrawn (R62) -/

theorem State.settleAtExpiry_of_sending (h : s.transmitter.isSending .report = true) :
    s.settleAtExpiry .pending = { s with transmitter := s.transmitter.markExpired } := by
  rw [State.settleAtExpiry, if_pos rfl, if_pos h]

theorem State.settleAtExpiry_of_waiting (h : s.transmitter.isSending .report = false) :
    s.settleAtExpiry .pending = s.withdrawStale := by
  rw [State.settleAtExpiry, if_pos rfl, if_neg (by simp [h])]

theorem State.settleAtExpiry_of_settled {status : ReportStatus} (h : status ≠ .pending) : s.settleAtExpiry status = s :=
  if_neg h

theorem State.withdrawStale_slots (s : State) :
    s.withdrawStale.transmitter.report = none ∧
    s.withdrawStale.transmitter.notice.isSome = s.transmitter.notice.isSome ∧
    s.withdrawStale.transmitter.giveUps = s.transmitter.giveUps ∧
    flagOf s.withdrawStale.causes.pending .txFailure = true := by
  refine ⟨?_, by simp [State.withdrawStale], by simp [State.withdrawStale], ?_⟩
  · rw [← Option.not_isSome_iff_eq_none]
    simp [State.withdrawStale]
  · refine (State.chooseCurrent_raised (S := {.txFailure}) .refl rfl).pending ?_
    exact (s.causes.flagOf_raised _ _).trans (by simp)

theorem State.withdrawStale_unstuck
    (h : s.transmitter.notice = none ∨ s.transmitter.stuckTimer < stuckLimit ∨ s.receiver.gapTimer = 4 ∨
      s.transmitter.state = .sending ∨ ∃ n, s.transmitter.notice = some n ∧ n.stuckReported = true) :
    s.withdrawStale.transmitter.lastFailure = .stale ∧ s.withdrawStale.transmitter.notice = s.transmitter.notice := by
  obtain ⟨hfailure, hnotice⟩ := State.chooseCurrent_unstuck
    (s := { s with
      transmitter := { s.transmitter.notCurrent .report with report := none, lastFailure := .stale } }.raise .txFailure)
    rfl (by simpa using h)
  exact ⟨hfailure, hnotice.trans (by simp)⟩

/-- R143: a notice that has waited 2 s behind the report is reported as stuck when it becomes current. -/
theorem State.withdrawStale_stuck {n : NoticeSlot} (hn : s.transmitter.notice = some n) (hreported : n.stuckReported = false)
    (ht : stuckLimit ≤ s.transmitter.stuckTimer) (hg : s.receiver.gapTimer ≠ 4) (hs : s.transmitter.state ≠ .sending)
    (hc : s.transmitter.current = some .report) :
    s.withdrawStale.transmitter.lastFailure = .lineStuck ∧
    s.withdrawStale.transmitter.notice = some { n with stuckReported := true } := by
  have hkept : s.transmitter.notCurrent .report = { s.transmitter with current := none } := if_pos ⟨hc, hs⟩
  rw [State.withdrawStale, hkept, State.chooseCurrent_of_wanted (slot := .notice) (by exact hs)
    (Transmitter.wanted_notice.mpr ⟨rfl, by simp [hn]⟩) (by simp),
    State.enterWaitIdle_of_stuck (by exact hg) (by exact ht) (by simp [Transmitter.currentStuckReported, hn, hreported])]
  exact ⟨rfl, by simp [Transmitter.markStuckReported, hn]⟩

/-! ### What the close leaves of it (R62, R65) -/

/-- R65: grace disarmed, its expiry taken. -/
def State.disarmed (s : State) : State :=
  { s with timebase := { s.timebase with graceArmed := false, due := { s.timebase.due with graceExpiry := false } } }

theorem State.beforeClose_eq (s : State) (e : WindowEntry) :
    s.beforeClose e =
      { s.disarmed.settleAtExpiry e.reportStatus with
        windows := { (s.disarmed.settleAtExpiry e.reportStatus).windows with graceEntry := none } } := rfl

theorem State.chooseCurrent_with (s : State) : ∃ x u, s.chooseCurrent = { s with transmitter := x, causes := u } := by
  unfold State.chooseCurrent
  repeat' split
  · exact ⟨s.transmitter, s.causes, rfl⟩
  · exact ⟨_, s.causes, rfl⟩
  · exact ⟨s.transmitter, s.causes, rfl⟩
  · exact ⟨_, _, State.enterWaitIdle_eq _⟩

theorem State.settleAtExpiry_with (s : State) (status : ReportStatus) :
    ∃ x u, s.settleAtExpiry status = { s with transmitter := x, causes := u } := by
  unfold State.settleAtExpiry State.withdrawStale
  repeat' split
  · exact ⟨_, s.causes, rfl⟩
  · exact State.chooseCurrent_with _
  · exact ⟨s.transmitter, s.causes, rfl⟩

theorem State.raiseIf_with (s : State) (b : Bool) (c : Cause) : ∃ u, s.raiseIf b c = { s with causes := u } := by
  unfold State.raiseIf
  split
  · exact ⟨_, rfl⟩
  · exact ⟨s.causes, rfl⟩

theorem State.offerFinal_with (s : State) (r : Record) :
    ∃ q u, s.offerFinal r = { s with records := q, causes := u } := by
  unfold State.offerFinal
  split
  · exact ⟨_, _, State.enqueue_eq r s⟩
  · exact ⟨_, _, rfl⟩

theorem State.finishDay_with (s : State) : ∃ c q u, s.finishDay = { s with contexts := c, records := q, causes := u } := by
  unfold State.finishDay
  split
  · exact ⟨s.contexts, s.records, s.causes, rfl⟩
  · exact ⟨_, State.offerFinal_with _ _⟩

/-- R67: of the state a close changes the contexts, the records, the peers, the skew status and the causes. -/
theorem State.closeWindow_with (s : State) (w : WindowEntry) :
    ∃ x c q p u, s.closeWindow w =
      { s with station := { s.station with skew := x }, contexts := c, records := q, peers := p, causes := u } := by
  unfold State.closeWindow
  dsimp only
  obtain ⟨u, hchecked⟩ := State.raiseIf_with
    { s with
      contexts := s.contextsAfterClose w, peers := upkeep w.contributors s.peers
      station := { s.station with skew := skewOf s.items.skewLimit (measuredOffsets w s.peers) } }
    (skewRaises s.station.skew (skewOf s.items.skewLimit (measuredOffsets w s.peers))) .clockSkew
  rw [hchecked]
  split
  · obtain ⟨c, q, v, hday⟩ := State.finishDay_with
      { s with
        contexts := s.contextsAfterClose w, peers := upkeep w.contributors s.peers
        station := { s.station with skew := skewOf s.items.skewLimit (measuredOffsets w s.peers) }, causes := u }
    exact ⟨_, c, q, _, v, hday⟩
  · exact ⟨_, _, s.records, _, u, rfl⟩

/-- R30, R65: what a grace expiry leaves as it was. -/
theorem State.graceExpiry_with {e : WindowEntry} (he : s.windows.graceEntry = some e) :
    ∃ w x c q p y u, s.graceExpiry =
      { s.disarmed with
        windows := w, station := { s.station with skew := x }, contexts := c, records := q, peers := p, transmitter := y
        causes := u } := by
  obtain ⟨y, v, hsettled⟩ := s.disarmed.settleAtExpiry_with e.reportStatus
  obtain ⟨x, c, q, p, u, hclose⟩ :=
    (s.beforeClose e).closeWindow_with { e with reportStatus := s.transmitter.statusAtExpiry e.reportStatus }
  refine ⟨s.graceExpiry.windows, x, c, q, p, y, u, ?_⟩
  rw [State.graceExpiry_of_entry he, hclose, State.beforeClose_eq, hsettled]
  rfl

theorem State.graceExpiry_transmitter {e : WindowEntry} (he : s.windows.graceEntry = some e) :
    s.graceExpiry.transmitter = (s.beforeClose e).transmitter := by
  rw [State.graceExpiry_of_entry he]
  simp

theorem State.graceExpiry_pending {e : WindowEntry} (he : s.windows.graceEntry = some e) {c : Cause}
    (h : flagOf (s.beforeClose e).causes.pending c = true) : flagOf s.graceExpiry.causes.pending c = true := by
  rw [State.graceExpiry_of_entry he]
  exact (State.closeWindow_raised (S := Set.univ) .refl (Set.mem_univ _) (Set.subset_univ _)).pending h

theorem State.graceExpiry_of_waiting {e : WindowEntry} (he : s.windows.graceEntry = some e)
    (hpending : e.reportStatus = .pending) (h : s.transmitter.isSending .report = false) :
    s.graceExpiry.transmitter = s.disarmed.withdrawStale.transmitter ∧
    flagOf s.graceExpiry.causes.pending .txFailure = true := by
  have hwaiting : s.disarmed.settleAtExpiry e.reportStatus = s.disarmed.withdrawStale := by
    rw [hpending]
    exact State.settleAtExpiry_of_waiting h
  refine ⟨?_, State.graceExpiry_pending he ?_⟩
  · rw [State.graceExpiry_transmitter he, State.beforeClose_eq, hwaiting]
  · rw [State.beforeClose_eq, hwaiting]
    exact s.disarmed.withdrawStale_slots.2.2.2

theorem State.graceExpiry_of_sending {e : WindowEntry} (he : s.windows.graceEntry = some e)
    (hpending : e.reportStatus = .pending) (h : s.transmitter.isSending .report = true) :
    s.graceExpiry.transmitter = s.transmitter.markExpired := by
  have hmarked : s.disarmed.settleAtExpiry .pending = { s.disarmed with transmitter := s.transmitter.markExpired } :=
    State.settleAtExpiry_of_sending h
  rw [State.graceExpiry_transmitter he, State.beforeClose_eq, hpending, hmarked]

theorem Transmitter.markExpired_frame (t : Transmitter) : t.markExpired.currentFrame = t.currentFrame := by
  unfold Transmitter.currentFrame Transmitter.markExpired
  simp [Function.comp_def]

/-! ### A collision and the grace expiry of one moment (R64) -/

section
variable {f : ReportSlot} {n : Nat} (hs : s.transmitter.state = .sending) (hc : s.transmitter.current = some .report)
  (hp : s.receiver.parser = .held) (hf : s.transmitter.report = some f) (hm : s.transmitter.readBack = .matched n)
  (hn : n < s.transmitter.currentFrame.length)

include hs hc hp hf hm hn

theorem State.collide_of_report :
    ∃ space drawn, s.collide = ((s.collided space drawn).reportCollision f).chooseCurrent := by
  obtain ⟨space, drawn, hcollide, -⟩ :=
    State.collide_unheard hs (fun _ => hp) fun _ => ⟨n, _, hm, List.getElem?_eq_getElem hn⟩
  rw [hc, State.frameCollision_of_report (by exact hf)] at hcollide
  exact ⟨space, drawn, hcollide⟩

/-- R64: the collision first: at any attempt count the report waits for its grace expiry. -/
theorem State.collide_of_awaited (he : f.expired = false) (hx : s.expiryFollows f.content = true) :
    s.collide.windows = s.windows ∧ s.collide.timebase = s.timebase ∧
    s.collide.transmitter.isSending .report = false ∧ s.collide.transmitter.giveUps = s.transmitter.giveUps := by
  obtain ⟨space, drawn, hcollide⟩ := State.collide_of_report hs hc hp hf hm hn
  rw [hcollide, State.reportCollision_of_retry he (.inr (by exact hx))]
  refine ⟨by simp [State.collided], by simp [State.collided], ?_, by simp [State.collided]⟩
  have hrests := (State.chooseCurrent_current (s := { s.collided space drawn with
    transmitter := { (s.collided space drawn).transmitter with report := some { f with attempts := min 8 (f.attempts + 1) } } })
    (by simp [State.collided]) fun _ => rfl).2.2
  simp [Transmitter.isSending, hrests]

/-- R63, R64: the grace expiry first: the collision of the expired report withdraws it. -/
theorem State.collide_of_expired (he : f.expired = true) :
    s.collide.windows =
      { s.windows with
        closedReport := s.windows.closedReport.map fun c => { c with status := c.status.settle .stale } } ∧
    s.collide.transmitter.report = none ∧ s.collide.transmitter.giveUps = s.transmitter.giveUps ∧
    flagOf s.collide.causes.pending .txFailure = true := by
  obtain ⟨space, drawn, hcollide⟩ := State.collide_of_report hs hc hp hf hm hn
  rw [hcollide, State.reportCollision_of_expired he]
  refine ⟨by simp [State.collided], ?_, by simp [State.collided], ?_⟩
  · rw [← Option.not_isSome_iff_eq_none]
    simp
  · refine (State.chooseCurrent_raised (S := {.txFailure}) .refl rfl).pending ?_
    exact (CauseUnit.flagOf_raised _ _ _).trans (by simp)

end

/-- Settles O28: the report in transmission is marked, a waiting one withdrawn, a settled one left; a collision of the same
moment withdraws the report before or after. -/
theorem reportAtGraceExpiry : Obligations.ReportAtGraceExpiry := by
  intro s e hr hg he sending
  have hsending : s.transmitter.isSending .report = true ↔ sending := by simp [Transmitter.isSending, sending]
  have hnotSending : s.transmitter.isSending .report = false ↔ ¬sending := by rw [← hsending, Bool.not_eq_true]
  have hstatus : s.transmitter.statusAtExpiry e.reportStatus =
      if e.reportStatus = .pending ∧ ¬sending then .stale else e.reportStatus := by
    rw [Transmitter.statusAtExpiry]
    exact if_congr (and_congr_right fun _ => hnotSending) rfl rfl
  have hwindows := (s.graceExpiry_tables he).1
  rw [hstatus] at hwindows
  refine ⟨s.graceExpiry, exec_graceExpiry hr hg, ?_, fun hpending hnot => ?_, fun hpending hsend => ?_, fun hsettled => ?_,
    fun f w n hpending hsend hoff hp hf hcontent hexpired hm hn => ?_⟩
  · obtain ⟨w, x, c, q, p, y, u, heq⟩ := State.graceExpiry_with he
    rw [← hwindows, heq]
    rfl
  · obtain ⟨hwithdrawn, hraised⟩ := State.graceExpiry_of_waiting he hpending (hnotSending.mpr hnot)
    obtain ⟨hreport, hnotice, -, -⟩ := s.disarmed.withdrawStale_slots
    rw [hwithdrawn]
    exact ⟨hreport, hnotice, hraised, State.withdrawStale_unstuck (s := s.disarmed),
      fun n hn hfresh ht hg hs hc => State.withdrawStale_stuck (s := s.disarmed) hn hfresh ht hg hs hc⟩
  · exact State.graceExpiry_of_sending he hpending (hsending.mpr hsend)
  · rw [s.graceExpiry_transmitter he, State.beforeClose_eq, State.settleAtExpiry_of_settled hsettled]
    rfl
  · obtain ⟨hs, hc⟩ := hsend
    have hcollides : s.transmitter.canCollide = true :=
      Transmitter.canCollide_of_matched hs (by rw [hoff]; decide) hm hn
    intro order horder
    rcases List.mem_pair.mp horder with rfl | rfl
    case inl =>
      have hfollows : s.expiryFollows f.content = true :=
        (State.expiryFollows_iff s f.content).mpr ⟨⟨w, hcontent⟩, hg, e, he, hpending⟩
      obtain ⟨htable, htime, hwaiting, hgiveUps⟩ := State.collide_of_awaited hs hc hp hf hm hn hexpired hfollows
      have he' : s.collide.windows.graceEntry = some e := by rw [htable, he]
      obtain ⟨hwithdrawn, hraised⟩ := State.graceExpiry_of_waiting he' hpending hwaiting
      obtain ⟨hreport, -, hkept, -⟩ := s.collide.disarmed.withdrawStale_slots
      have hstale : s.collide.transmitter.statusAtExpiry e.reportStatus = .stale := if_pos ⟨hpending, hwaiting⟩
      refine ⟨s.collide, s.collide.graceExpiry, exec_txCollision hr hcollides,
        exec_graceExpiry (by simpa using hr) (by rw [htime, hg]), ?_⟩
      rw [(s.collide.graceExpiry_tables he').1, hwithdrawn, hstale]
      exact ⟨rfl, rfl, hreport, hkept.trans hgiveUps, hraised⟩
    case inr =>
      have hmarked := State.graceExpiry_of_sending he hpending (hsending.mpr ⟨hs, hc⟩)
      obtain ⟨_, _, _, _, _, _, _, heq⟩ := State.graceExpiry_with he
      have hreceiver : s.graceExpiry.receiver = s.receiver := by rw [heq]; rfl
      have hrstn : s.graceExpiry.rstnHigh = true := by rw [heq]; exact hr
      obtain ⟨htable, hreport, hgiveUps, hraised⟩ := State.collide_of_expired (s := s.graceExpiry)
        (f := { f with expired := true }) (n := n) (by rw [hmarked]; exact hs) (by rw [hmarked]; exact hc)
        (by rw [hreceiver]; exact hp) (by rw [hmarked, Transmitter.markExpired, hf]; rfl) (by rw [hmarked]; exact hm)
        (by rw [hmarked, Transmitter.markExpired_frame]; exact hn) rfl
      refine ⟨s.graceExpiry, s.graceExpiry.collide, exec_graceExpiry hr hg, exec_txCollision hrstn ?_, ?_⟩
      · rw [hmarked]
        refine Transmitter.canCollide_of_matched hs ?_ hm (by rw [Transmitter.markExpired_frame]; exact hn)
        rw [show s.transmitter.markExpired.testMode = .off from hoff]
        decide
      · have hkept : (if e.reportStatus = .pending ∧ ¬sending then ReportStatus.stale else e.reportStatus) = .pending := by
          rw [if_neg fun h => h.2 ⟨hs, hc⟩, hpending]
        rw [htable, hwindows, hgiveUps, hmarked, hkept]
        exact ⟨rfl, rfl, hreport, rfl, hraised⟩

end Sys2Proof.Machine

/-! SUPPORT. The octets of the station's frames and the way they are read back (R115, R117, R122 to R124, R194). Settles
O38. -/

namespace Sys2Proof.Machine

/-! ### The CRC register (R117) -/

/-- R117: a CRC register whose high bits have been shifted out of an octet shifts without the polynomial. -/
theorem crcShift_of_low (x : Octet) {k : Nat} (hk : k < 8) :
    crcShift (x.setWidth 16 <<< k) = x.setWidth 16 <<< (k + 1) := by
  have hmsb : (x.setWidth 16 <<< k).msb = false := by
    rw [BitVec.msb_eq_getLsbD_last]
    simp [BitVec.getLsbD_of_ge x (15 - k) (by omega)]
  rw [crcShift, if_neg (by simp [hmsb]), ← BitVec.shiftLeft_add]

/-- R117: an octet enters the register at its high end. -/
theorem getLsbD_entering (x : Octet) (i : Nat) :
    BitVec.getLsbD (w := 16) (x ++ 0#8) i = (decide (8 ≤ i) && x.getLsbD (i - 8)) := by
  refine BitVec.getLsbD_append.trans ?_
  by_cases h : i < 8
  · simp [h]
  · simp [h, Nat.not_lt.mp h]

/-- R117: the register fed its own high octet holds its low octet as the high one. -/
theorem crcOctet_high (c : BitVec 16) : crcOctet c (c.extractLsb' 8 8) = (c.extractLsb' 0 8).setWidth 16 <<< 8 := by
  have hlow : c ^^^ (c.extractLsb' 8 8 ++ 0#8) = (c.extractLsb' 0 8).setWidth 16 <<< 0 := by
    refine BitVec.eq_of_getLsbD_eq fun i hi => ?_
    rw [BitVec.getLsbD_xor, getLsbD_entering]
    by_cases h : i < 8
    · simp [hi, h, Nat.not_le.mpr h]
    · have hhigh : i - 8 < 8 := by omega
      simp [hi, hhigh, Nat.add_sub_cancel' (Nat.not_lt.mp h), Nat.not_lt.mp h]
  rw [crcOctet, hlow]
  iterate 8 rw [crcShift_of_low _ (by decide)]

/-- R117: a register fed both its octets, the high one first, stands at 0. -/
theorem crcOctet_residue (c : BitVec 16) : crcOctet (crcOctet c (c.extractLsb' 8 8)) (c.extractLsb' 0 8) = 0 := by
  have hzero : (c.extractLsb' 0 8).setWidth 16 <<< 8 ^^^ (c.extractLsb' 0 8 ++ 0#8) = 0 := by
    refine BitVec.eq_of_getLsbD_eq fun i hi => ?_
    rw [BitVec.getLsbD_xor, getLsbD_entering]
    by_cases h : i < 8
    · simp [h, hi]
    · have hhigh : i - 8 < 8 := by omega
      simp [h, hi, hhigh, Nat.not_lt.mp h]
  rw [crcOctet_high, crcOctet, hzero]
  rfl

theorem crc16_residue (l : List Octet) : crc16 (l ++ octets 2 (crc16 l).toNat) = 0 := by
  rw [octets_two_toNat, crc16, List.foldl_append]
  exact crcOctet_residue (crc16 l)

/-! ### Fields at their offsets (R194) -/

/-- R192: a list carries a number of so many octets at an offset, its most significant octet first. -/
def Carries (l : List Octet) (offset width value : Nat) : Prop :=
  ∀ k, k < width → l[offset + k]? = some (BitVec.ofNat 8 (value / 256 ^ (width - 1 - k)))

theorem carries_octets (width value : Nat) : Carries (octets width value) 0 width value := by
  induction width with
  | zero => exact fun k hk => absurd hk (Nat.not_lt_zero k)
  | succ n ih =>
    intro k hk
    rw [Nat.zero_add, octets]
    cases k with
    | zero => rfl
    | succ k =>
      have hnext := ih k (Nat.lt_of_succ_lt_succ hk)
      rw [Nat.zero_add] at hnext
      rw [List.getElem?_cons_succ, hnext]
      congr 4
      omega

theorem carries_append_left {a b : List Octet} {offset width value : Nat} (h : offset + width ≤ a.length) :
    Carries (a ++ b) offset width value ↔ Carries a offset width value := by
  refine forall₂_congr fun k hk => ?_
  rw [List.getElem?_append_left (by omega)]

theorem carries_append_right {a b : List Octet} {offset width value : Nat} (h : a.length ≤ offset) :
    Carries (a ++ b) offset width value ↔ Carries b (offset - a.length) width value := by
  refine forall₂_congr fun k hk => ?_
  rw [List.getElem?_append_right (by omega), Nat.sub_add_comm h]

theorem carries_cons {o : Octet} {b : List Octet} {offset width value : Nat} (h : 1 ≤ offset) :
    Carries (o :: b) offset width value ↔ Carries b (offset - 1) width value :=
  carries_append_right (a := [o]) h

/-! ### The payloads (R122 to R124, R194) -/

@[simp] theorem WindowReport.payload_length (r : WindowReport) : r.payload.length = 32 := by simp [WindowReport.payload]

theorem WindowReport.payload_carries (r : WindowReport) :
    Carries r.payload 0 1 r.sender ∧ Carries r.payload 2 2 r.day ∧ Carries r.payload 4 2 r.windowInDay ∧
    Carries r.payload 6 4 r.demand.heat ∧ Carries r.payload 10 4 r.demand.cool ∧
    Carries r.payload 14 5 r.energy.heat ∧ Carries r.payload 19 5 r.energy.cool ∧ Carries r.payload 24 2 r.weight ∧
    Carries r.payload 26 2 r.digest ∧ Carries r.payload 28 3 r.second := by
  simp [WindowReport.payload, carries_append_left, carries_append_right, carries_octets, carries_cons]

theorem WindowReport.payload_octets (r : WindowReport) :
    r.payload[1]? = some r.roleCode ∧ r.payload[31]? = some (qualityOctet r.quality) := by
  simp [WindowReport.payload]

theorem qualityOctet_bits (q : PerPlant Quality) :
    let o := qualityOctet q
    o.getLsbD 0 = q.heat.estimated ∧ o.getLsbD 1 = q.heat.faulted ∧ o.getLsbD 2 = q.heat.backup ∧
    o.getLsbD 3 = q.heat.partialWindow ∧ o.getLsbD 4 = q.cool.estimated ∧ o.getLsbD 5 = q.cool.faulted ∧
    o.getLsbD 6 = q.cool.backup ∧ o.getLsbD 7 = q.cool.partialWindow := by
  obtain ⟨⟨a, b, c, d⟩, ⟨e, f, g, h⟩⟩ := q
  revert a b c d e f g h
  decide

theorem PresenceNotice.payload_carries (n : PresenceNotice) :
    Carries n.payload 0 1 n.sender ∧ Carries n.payload 3 2 n.weight ∧ Carries n.payload 5 2 n.digest ∧
    Carries n.payload 7 1 n.expected ∧ Carries n.payload 8 3 n.second := by
  simp [PresenceNotice.payload, carries_append_left, carries_append_right, carries_octets, carries_cons]

theorem PresenceNotice.payload_octets (n : PresenceNotice) :
    n.payload[1]? = some n.roleCode ∧ n.payload[2]? = some n.announced.code := by
  simp [PresenceNotice.payload]

theorem lineTestPayload_carries (n : Nat) : Carries (lineTestPayload n) 1 2 n := by
  simp [lineTestPayload, carries_append_left, carries_octets, carries_cons]

/-! ### The payloads read back (R122, R123, R194) -/

@[simp] theorem qualityOfOctet_qualityOctet (q : PerPlant Quality) : qualityOfOctet (qualityOctet q) = q := by
  obtain ⟨h0, h1, h2, h3, h4, h5, h6, h7⟩ := qualityOctet_bits q
  rw [qualityOfOctet, h0, h1, h2, h3, h4, h5, h6, h7]

theorem reportOfPayload_payload (r : WindowReport) :
    reportOfPayload r.payload =
      { r with
        sender := r.sender % 256, day := r.day % 65536, windowInDay := r.windowInDay % 65536
        demand := ⟨r.demand.heat % 2 ^ 32, r.demand.cool % 2 ^ 32⟩
        energy := ⟨r.energy.heat % 2 ^ 40, r.energy.cool % 2 ^ 40⟩
        weight := r.weight % 65536, digest := r.digest % 65536, second := r.second % 2 ^ 24 } := by
  simp [reportOfPayload, WindowReport.payload, fieldAt_append_left, fieldAt_append_right, octetAt_append_right, fieldAt_cons]

theorem noticeStateOfCode_code (x : NoticeState) : noticeStateOfCode x.code = some x := by cases x <;> rfl

theorem noticeOfPayload_payload (n : PresenceNotice) :
    noticeOfPayload n.payload =
      some { n with
        sender := n.sender % 256, weight := n.weight % 65536, digest := n.digest % 65536
        expected := n.expected % 256, second := n.second % 2 ^ 24 } := by
  have hstate : octetAt n.payload 2 = n.announced.code := by
    simp [PresenceNotice.payload, octetAt_append_right]
  rw [noticeOfPayload, hstate, noticeStateOfCode_code]
  simp [PresenceNotice.payload, fieldAt_append_left, fieldAt_append_right, octetAt_append_right,
    fieldAt_cons]

/-- Settles O38: the octets of a frame and the fields of its payload, the CRC residue, and the fields read back. -/
theorem framesReadBack : Obligations.FramesReadBack := by
  unfold Obligations.FramesReadBack
  intro carries
  refine ⟨fun kind payload => ?_, fun r => ?_, fun n => ?_, fun n => ?_, crc16_residue, fun kind payload h => ?_,
    fun r => ?_, fun n => ?_, fun n => ?_⟩
  · intro crc
    rw [frameOctets_eq, octets_two_toNat]
    rfl
  · obtain ⟨h0, h2, h4, h6, h10, h14, h19, h24, h26, h28⟩ := r.payload_carries
    obtain ⟨hrole, hquality⟩ := r.payload_octets
    exact ⟨h0, hrole, h2, h4, h6, h10, h14, h19, h24, h26, h28, _, hquality, qualityOctet_bits r.quality⟩
  · obtain ⟨h0, h3, h5, h7, h8⟩ := n.payload_carries
    obtain ⟨hrole, hstate⟩ := n.payload_octets
    exact ⟨h0, hrole, fun h => by rw [hstate, h]; rfl, fun h => by rw [hstate, h]; rfl, fun h => by rw [hstate, h]; rfl,
      h3, h5, h7, h8⟩
  · exact ⟨rfl, lineTestPayload_carries n, rfl⟩
  · exact ⟨frameOctets_length kind payload, frameComplete_frameOctets h, frameGood_frameOctets kind payload,
      framePayload_frameOctets kind payload, octetAt_frameOctets_kind kind payload⟩
  · refine ⟨r.payload_length, fun hsender hday hwindow hdemand henergy hweight hdigest hsecond => ?_⟩
    have hheat : r.demand.heat < 2 ^ 32 := hdemand .heat
    have hcool : r.demand.cool < 2 ^ 32 := hdemand .cool
    have hheat' : r.energy.heat < 2 ^ 40 := henergy .heat
    have hcool' : r.energy.cool < 2 ^ 40 := henergy .cool
    rw [reportOfPayload_payload, Nat.mod_eq_of_lt hsender, Nat.mod_eq_of_lt hday, Nat.mod_eq_of_lt hwindow,
      Nat.mod_eq_of_lt hheat, Nat.mod_eq_of_lt hcool, Nat.mod_eq_of_lt hheat', Nat.mod_eq_of_lt hcool',
      Nat.mod_eq_of_lt hweight, Nat.mod_eq_of_lt hdigest, Nat.mod_eq_of_lt hsecond]
  · refine ⟨by simp [PresenceNotice.payload], fun hsender hweight hdigest hexpected hsecond => ?_⟩
    rw [noticeOfPayload_payload, Nat.mod_eq_of_lt hsender, Nat.mod_eq_of_lt hweight, Nat.mod_eq_of_lt hdigest,
      Nat.mod_eq_of_lt hexpected, Nat.mod_eq_of_lt hsecond]
  · exact ⟨lineTestPayload_length n, lineTestWellFormed_lineTestPayload n, fieldAt_lineTestPayload n⟩

end Sys2Proof.Machine

/-! SUPPORT. The layout of READ STATUS (R185, R187, R193, R196, R198). Settles O8. -/

namespace Sys2Proof.Machine

variable {s : State}

/-! ### A part of a response at its offset -/

/-- A list of octets holds a part at an offset. -/
def StandsAt (l : List Octet) (offset : Nat) (part : List Octet) : Prop :=
  ∃ a c, a.length = offset ∧ l = a ++ (part ++ c)

theorem StandsAt.of_eq {l p : List Octet} (h : l = p) : StandsAt l 0 p := ⟨[], [], rfl, by simp [h]⟩

theorem StandsAt.left {l p q : List Octet} {offset : Nat} (h : StandsAt l offset (p ++ q)) : StandsAt l offset p := by
  obtain ⟨a, c, ha, rfl⟩ := h
  exact ⟨a, q ++ c, ha, by rw [List.append_assoc]⟩

theorem StandsAt.right {l p q : List Octet} {offset n : Nat} (h : StandsAt l offset (p ++ q)) (hp : p.length = n) :
    StandsAt l (offset + n) q := by
  obtain ⟨a, c, ha, rfl⟩ := h
  exact ⟨a ++ p, c, by rw [List.length_append, ha, hp], by simp only [List.append_assoc]⟩

theorem StandsAt.fieldAt {l p : List Octet} {offset : Nat} (h : StandsAt l offset p) (k : Nat) {i n : Nat}
    (hi : offset + k = i) (hk : k + n ≤ p.length) : fieldAt l i n = fieldAt p k n := by
  obtain ⟨a, c, rfl, rfl⟩ := h
  subst hi
  rw [fieldAt_append_right _ _ _ _ (Nat.le_add_right _ _), Nat.add_sub_cancel_left, fieldAt_append_left _ _ _ _ hk]

theorem StandsAt.octetAt {l p : List Octet} {offset : Nat} (h : StandsAt l offset p) (k : Nat) {i : Nat}
    (hi : offset + k = i) (hk : k < p.length) : octetAt l i = octetAt p k := by
  obtain ⟨a, c, rfl, rfl⟩ := h
  subst hi
  rw [octetAt_append_right _ _ _ (Nat.le_add_right _ _), Nat.add_sub_cancel_left, octetAt_append_left _ _ _ hk]

/-! ### The parts of the response (R198) -/

/-- R198: the Station Controller's part. -/
def Station.octets (x : Station) : List Octet :=
  [x.state.code, markOctet x.commissioned, x.supplyMode.code] ++ Machine.octets 1 x.recoveryCount ++ [x.skew.code]
    ++ Machine.octets 2 x.digest

/-- R198: the Timebase's part. -/
def timebaseOctets (s : State) : List Octet :=
  [markOctet s.timebase.clockValid] ++ octets 2 s.timebase.day ++ octets 3 s.timebase.secondOfDay
    ++ octets 2 s.timebase.windowInDay ++ octets 2 s.timebase.secondsInWindow
    ++ signedOctets 1 s.timebase.slewSettled ++ octets 4 s.openIndex

/-- R198: the part of the Record Queue. -/
def RecordQueue.octets (q : RecordQueue) : List Octet :=
  Machine.octets 1 q.queue.length ++ [markOctet q.overflow.isSome]
    ++ Machine.octets 2 ((q.overflow.map fun r => r.mergedCount).getD 0) ++ Machine.octets 2 q.discarded

/-- R198: the part of the Peer Table. -/
def peerCountOctets (peers : List PeerEntry) : List Octet :=
  octets 1 peers.length ++ octets 1 (countPeers peers .present) ++ octets 1 (countPeers peers .quiet)
    ++ octets 1 (countPeers peers .silent) ++ octets 1 (countPeers peers .incompatible)

/-- R198: the Cause Unit's part. -/
def causeOctets (s : State) : List Octet :=
  causeWord s.causes.pending ++ causeWord s.causes.enables
    ++ [markOctet s.causes.master, s.causes.mode.code, markOctet s.irqnAsserted]

theorem statusOctets_eq (s : State) :
    statusOctets s =
      s.station.octets ++ (timebaseOctets s ++ (closedReportOctets s.windows.closedReport ++
        (s.records.octets ++ (peerCountOctets s.peers ++ causeOctets s)))) := by
  unfold statusOctets Station.octets timebaseOctets RecordQueue.octets peerCountOctets causeOctets
  simp only [List.append_assoc, List.cons_append, List.nil_append]

@[simp] theorem Station.octets_length (x : Station) : x.octets.length = 7 := by simp [Station.octets]

@[simp] theorem timebaseOctets_length (s : State) : (timebaseOctets s).length = 15 := by simp [timebaseOctets]

@[simp] theorem closedReportOctets_length (c : Option ClosedReport) : (closedReportOctets c).length = 6 := by
  cases c <;> simp [closedReportOctets]

@[simp] theorem RecordQueue.octets_length (q : RecordQueue) : q.octets.length = 6 := by simp [RecordQueue.octets]

@[simp] theorem peerCountOctets_length (peers : List PeerEntry) : (peerCountOctets peers).length = 5 := by
  simp [peerCountOctets]

@[simp] theorem causeOctets_length (s : State) : (causeOctets s).length = 7 := by simp [causeOctets]

theorem statusOctets_parts (s : State) :
    StandsAt (statusOctets s) 0 s.station.octets ∧ StandsAt (statusOctets s) 7 (timebaseOctets s) ∧
    StandsAt (statusOctets s) 22 (closedReportOctets s.windows.closedReport) ∧
    StandsAt (statusOctets s) 28 s.records.octets ∧ StandsAt (statusOctets s) 34 (peerCountOctets s.peers) ∧
    StandsAt (statusOctets s) 39 (causeOctets s) := by
  have hstation := StandsAt.of_eq (statusOctets_eq s)
  have htimebase := hstation.right (Station.octets_length _)
  have hreport := htimebase.right (timebaseOctets_length s)
  have hrecords := hreport.right (closedReportOctets_length _)
  have hpeers := hrecords.right (RecordQueue.octets_length _)
  exact ⟨hstation.left, htimebase.left, hreport.left, hrecords.left, hpeers.left,
    hpeers.right (peerCountOctets_length _)⟩

/-! ### The fields of the parts (R198) -/

theorem Station.octets_fields (x : Station) :
    octetAt x.octets 0 = x.state.code ∧ octetAt x.octets 1 = markOctet x.commissioned ∧
    octetAt x.octets 2 = x.supplyMode.code ∧ fieldAt x.octets 3 1 = x.recoveryCount % 256 ∧
    octetAt x.octets 4 = x.skew.code ∧ fieldAt x.octets 5 2 = x.digest % 65536 := by
  simp [Station.octets, fieldAt_append_left, fieldAt_append_right, octetAt_append_right, fieldAt_cons]

theorem timebaseOctets_fields (s : State) :
    octetAt (timebaseOctets s) 0 = markOctet s.timebase.clockValid ∧
    fieldAt (timebaseOctets s) 1 2 = s.timebase.day % 65536 ∧
    fieldAt (timebaseOctets s) 3 3 = s.timebase.secondOfDay % 16777216 ∧
    fieldAt (timebaseOctets s) 6 2 = s.timebase.windowInDay % 65536 ∧
    fieldAt (timebaseOctets s) 8 2 = s.timebase.secondsInWindow % 65536 ∧
    (fieldAt (timebaseOctets s) 10 1 : Int) = s.timebase.slewSettled % 256 ∧
    fieldAt (timebaseOctets s) 11 4 = s.openIndex % 4294967296 := by
  simp [timebaseOctets, fieldAt_append_left, fieldAt_append_right, fieldAt_cons]

theorem closedReportOctets_fields (c : ClosedReport) :
    octetAt (closedReportOctets (some c)) 0 = 0x01 ∧ fieldAt (closedReportOctets (some c)) 1 4 = c.index % 4294967296 ∧
    octetAt (closedReportOctets (some c)) 5 = c.status.code := by
  simp [closedReportOctets, markOctet, fieldAt_append_left, octetAt_append_right, fieldAt_cons]

theorem RecordQueue.octets_fields (q : RecordQueue) :
    fieldAt q.octets 0 1 = q.queue.length % 256 ∧ octetAt q.octets 1 = markOctet q.overflow.isSome ∧
    fieldAt q.octets 2 2 = ((q.overflow.map Record.mergedCount).getD 0) % 65536 ∧
    fieldAt q.octets 4 2 = q.discarded % 65536 := by
  simp [RecordQueue.octets, fieldAt_append_left, fieldAt_append_right, octetAt_append_right, fieldAt_cons]

theorem peerCountOctets_fields (peers : List PeerEntry) :
    fieldAt (peerCountOctets peers) 0 1 = peers.length % 256 ∧
    fieldAt (peerCountOctets peers) 1 1 = countPeers peers .present % 256 ∧
    fieldAt (peerCountOctets peers) 2 1 = countPeers peers .quiet % 256 ∧
    fieldAt (peerCountOctets peers) 3 1 = countPeers peers .silent % 256 ∧
    fieldAt (peerCountOctets peers) 4 1 = countPeers peers .incompatible % 256 := by
  simp [peerCountOctets, fieldAt_append_left, fieldAt_append_right]

theorem fieldAt_causeWord (f : BitVec 10) : fieldAt (causeWord f) 0 2 = f.toNat :=
  (fieldAt_octets 2 f.toNat).trans (Nat.mod_eq_of_lt (f.isLt.trans (by decide)))

theorem causeOctets_fields (s : State) :
    fieldAt (causeOctets s) 0 2 = s.causes.pending.toNat ∧ fieldAt (causeOctets s) 2 2 = s.causes.enables.toNat ∧
    octetAt (causeOctets s) 4 = markOctet s.causes.master ∧ octetAt (causeOctets s) 5 = s.causes.mode.code ∧
    octetAt (causeOctets s) 6 = markOctet s.irqnAsserted := by
  simp [causeOctets, fieldAt_append_left, fieldAt_append_right, octetAt_append_right, fieldAt_causeWord]

/-! ### How a field is read (R192) -/

theorem fieldAt_succ {l : List Octet} {i n : Nat} (h : i + n < l.length) :
    fieldAt l i (n + 1) = 256 * fieldAt l i n + (octetAt l (i + n)).toNat := by
  have hn : n < (l.drop i).length := by
    rw [List.length_drop]
    omega
  have hoctet : octetAt l (i + n) = (l.drop i)[n] := by simp [octetAt, List.getElem?_eq_getElem h]
  rw [fieldAt, List.take_succ_eq_append_getElem hn, ofOctets, List.foldl_append, hoctet, mul_comm]
  rfl

/-- R31, R39: the index of the OPEN window fits its four octets. -/
theorem State.openIndex_lt (s : State) : s.openIndex < 4294967296 := by
  have hmodulus : s.items.length.modulus ≤ 65536 * 288 ∧ 0 < s.items.length.modulus := by
    cases s.items.length <;> decide
  unfold State.openIndex globalIndex
  split
  · exact (Nat.mod_lt _ hmodulus.2).trans_le (hmodulus.1.trans (by decide))
  · decide

/-- Settles O8: the codes as numbers, and each field of READ STATUS in the part of the response it belongs to. -/
theorem readStatusLayout : Obligations.ReadStatusLayout := by
  refine ⟨fun l i => ⟨rfl, rfl, fun n h => fieldAt_succ h⟩, by decide, flagOf_eq_getLsbD, fun s hopen => ?_⟩
  refine ⟨statusOctets s, ?_, by simp [statusOctets_eq], ?_⟩
  · rw [exec_of_hostEffect (e := fun s => (s, respond .ok (statusOctets s))) rfl]
    exact takeCommand_of_respond hopen rfl
  obtain ⟨hstation, htimebase, hreport, hrecords, hpeers, hcauses⟩ := statusOctets_parts s
  obtain ⟨s0, s1, s2, s3, s4, s5⟩ := s.station.octets_fields
  obtain ⟨t0, t1, t3, t6, t8, t10, t11⟩ := timebaseOctets_fields s
  obtain ⟨q0, q1, q2, q4⟩ := s.records.octets_fields
  obtain ⟨p0, p1, p2, p3, p4⟩ := peerCountOctets_fields s.peers
  obtain ⟨c0, c2, c4, c5, c6⟩ := causeOctets_fields s
  simp only [countPeers_eq] at p1 p2 p3 p4
  have hslew := (congrArg Nat.cast (htimebase.fieldAt 10 (i := 17) (n := 1) rfl (by simp))).trans t10
  rw [Timebase.slewSettled_eq] at hslew
  refine ⟨(hstation.octetAt 0 rfl (by simp)).trans s0, (hstation.octetAt 1 rfl (by simp)).trans s1,
    (hstation.octetAt 2 rfl (by simp)).trans s2, (hstation.fieldAt 3 rfl (by simp)).trans s3,
    (hstation.octetAt 4 rfl (by simp)).trans s4, (hstation.fieldAt 5 rfl (by simp)).trans s5,
    (htimebase.octetAt 0 rfl (by simp)).trans t0, (htimebase.fieldAt 1 rfl (by simp)).trans t1,
    (htimebase.fieldAt 3 rfl (by simp)).trans t3, (htimebase.fieldAt 6 rfl (by simp)).trans t6,
    (htimebase.fieldAt 8 rfl (by simp)).trans t8, fun hnot => ?notDue, fun hdue => ?due, ?index,
    fun hnone => ?noReport, fun k hk => ?report,
    (hrecords.fieldAt 0 rfl (by simp)).trans q0, (hrecords.octetAt 1 rfl (by simp)).trans q1,
    (hrecords.fieldAt 2 rfl (by simp)).trans q2, (hrecords.fieldAt 4 rfl (by simp)).trans q4,
    (hpeers.fieldAt 0 rfl (by simp)).trans p0, (hpeers.fieldAt 1 rfl (by simp)).trans p1,
    (hpeers.fieldAt 2 rfl (by simp)).trans p2, (hpeers.fieldAt 3 rfl (by simp)).trans p3,
    (hpeers.fieldAt 4 rfl (by simp)).trans p4, (hcauses.fieldAt 0 rfl (by simp)).trans c0,
    (hcauses.fieldAt 2 rfl (by simp)).trans c2, (hcauses.octetAt 4 rfl (by simp)).trans c4,
    (hcauses.octetAt 5 rfl (by simp)).trans c5, (hcauses.octetAt 6 rfl (by simp)).trans c6⟩
  case notDue =>
    rw [if_pos hnot] at hslew
    exact hslew
  case due =>
    rw [if_neg (by simp [hdue])] at hslew
    exact hslew
  case index =>
    rw [htimebase.fieldAt 11 rfl (by simp), t11, Nat.mod_eq_of_lt s.openIndex_lt]
    rfl
  case noReport =>
    rw [hnone] at hreport
    exact (hreport.fieldAt 0 rfl (by simp)).trans (fieldAt_zeros 6 0 6)
  case report =>
    obtain ⟨k0, k1, k5⟩ := closedReportOctets_fields k
    rw [hk] at hreport
    exact ⟨(hreport.octetAt 0 rfl (by simp)).trans k0, (hreport.fieldAt 1 rfl (by simp)).trans k1,
      (hreport.octetAt 5 rfl (by simp)).trans k5⟩

end Sys2Proof.Machine

/-! SUPPORT. The layout of FETCH RECORD (R104, R195). Settles O34. -/

namespace Sys2Proof.Machine

/-! ### The parts of a record (R195) -/

/-- R195: kind, address, role, days, merged count and flags. -/
def Record.headOctets (r : Record) : List Octet :=
  [r.kind.code] ++ Machine.octets 1 r.address ++ [(r.role.map Role.code).getD 0] ++ Machine.octets 2 r.firstDay
    ++ Machine.octets 2 r.lastDay ++ Machine.octets 2 r.mergedCount ++ [recordFlagsOctet r.partialDay r.saturated]

/-- R195: the unmetered volume and the reverse count. -/
def Figures.flowOctets (f : Figures) : List Octet := octets 6 f.unmetered ++ octets 4 f.reverseCount

/-- R195: the dispositions and the address clashes. -/
def Figures.receptionOctets (f : Figures) : List Octet :=
  octets 2 f.dispositions.late ++ octets 2 f.dispositions.duplicate ++ octets 2 f.dispositions.farAhead
    ++ octets 2 f.addressClashes

theorem Record.octets_eq (r : Record) :
    r.octets =
      r.headOctets ++ (bandOctets r.figures.energy ++ (bandOctets r.figures.commonShare ++
        (plantOctets6 r.figures.complexEnergy ++ (peakOctets r.figures.peak.heat ++ (peakOctets r.figures.peak.cool ++
          (r.figures.flowOctets ++ (r.figures.counts.octets ++ (r.figures.receptionOctets ++ (r.rxErrors.octets ++
            (plantOctets6 r.energyCost ++ plantOctets6 r.commonCost)))))))))) := by
  unfold Record.octets Record.headOctets Figures.flowOctets Figures.receptionOctets
  simp only [List.append_assoc, List.cons_append, List.nil_append]

@[simp] theorem Record.headOctets_length (r : Record) : r.headOctets.length = 10 := by simp [Record.headOctets]

@[simp] theorem bandOctets_length (x : PerPlant (PerBand Nat)) : (bandOctets x).length = 48 := by simp [bandOctets]

@[simp] theorem plantOctets6_length (x : PerPlant Nat) : (plantOctets6 x).length = 12 := by simp [plantOctets6]

@[simp] theorem peakOctets_length (k : Option Peak) : (peakOctets k).length = 19 := by cases k <;> simp [peakOctets]

@[simp] theorem Figures.flowOctets_length (f : Figures) : f.flowOctets.length = 10 := by simp [Figures.flowOctets]

@[simp] theorem WindowCounts.octets_length (c : WindowCounts) : c.octets.length = 18 := by simp [WindowCounts.octets]

@[simp] theorem Figures.receptionOctets_length (f : Figures) : f.receptionOctets.length = 8 := by
  simp [Figures.receptionOctets]

/-! ### The fields of the parts (R195) -/

theorem recordFlagsOctet_bits (partialDay saturated : Bool) :
    (recordFlagsOctet partialDay saturated).getLsbD 0 = partialDay ∧
    (recordFlagsOctet partialDay saturated).getLsbD 1 = saturated ∧
    (recordFlagsOctet partialDay saturated).toNat < 4 := by
  cases partialDay <;> cases saturated <;> decide

theorem Record.headOctets_fields (r : Record) :
    octetAt r.headOctets 0 = r.kind.code ∧ fieldAt r.headOctets 1 1 = r.address % 256 ∧
    octetAt r.headOctets 2 = (r.role.map Role.code).getD 0 ∧ fieldAt r.headOctets 3 2 = r.firstDay % 65536 ∧
    fieldAt r.headOctets 5 2 = r.lastDay % 65536 ∧ fieldAt r.headOctets 7 2 = r.mergedCount % 65536 ∧
    octetAt r.headOctets 9 = recordFlagsOctet r.partialDay r.saturated := by
  simp [Record.headOctets, fieldAt_append_left, fieldAt_append_right, octetAt_append_right, fieldAt_cons]

theorem bandOctets_fields (x : PerPlant (PerBand Nat)) {b : Nat} (hb : b < 4) :
    fieldAt (bandOctets x) (6 * b) 6 = x.heat.get b % 2 ^ 48 ∧
    fieldAt (bandOctets x) (24 + 6 * b) 6 = x.cool.get b % 2 ^ 48 := by
  interval_cases b <;> simp [bandOctets, PerBand.get, fieldAt_append_left, fieldAt_append_right]

theorem plantOctets6_fields (x : PerPlant Nat) :
    fieldAt (plantOctets6 x) 0 6 = x.heat % 2 ^ 48 ∧ fieldAt (plantOctets6 x) 6 6 = x.cool % 2 ^ 48 := by
  simp [plantOctets6, fieldAt_append_left, fieldAt_append_right]

theorem peakOctets_fields (k : Peak) :
    octetAt (peakOctets (some k)) 0 = 0x01 ∧ fieldAt (peakOctets (some k)) 1 4 = k.index % 2 ^ 32 ∧
    fieldAt (peakOctets (some k)) 5 6 = k.complexDemand % 2 ^ 48 ∧
    fieldAt (peakOctets (some k)) 11 4 = k.ownDemand % 2 ^ 32 ∧
    fieldAt (peakOctets (some k)) 15 1 = k.contributors % 256 ∧
    fieldAt (peakOctets (some k)) 16 3 = k.sharePpm % 2 ^ 24 := by
  simp [peakOctets, markOctet, fieldAt_append_left, fieldAt_append_right, fieldAt_cons]

theorem Figures.flowOctets_fields (f : Figures) :
    fieldAt f.flowOctets 0 6 = f.unmetered % 2 ^ 48 ∧ fieldAt f.flowOctets 6 4 = f.reverseCount % 2 ^ 32 := by
  simp [Figures.flowOctets, fieldAt_append_left, fieldAt_append_right]

theorem WindowCounts.octets_fields (c : WindowCounts) :
    fieldAt c.octets 0 2 = c.closed % 65536 ∧ fieldAt c.octets 2 2 = c.complete % 65536 ∧
    fieldAt c.octets 4 2 = c.estimated % 65536 ∧ fieldAt c.octets 6 2 = c.faulted % 65536 ∧
    fieldAt c.octets 8 2 = c.backup % 65536 ∧ fieldAt c.octets 10 2 = c.partialWindows % 65536 ∧
    fieldAt c.octets 12 2 = c.unapportioned % 65536 ∧ fieldAt c.octets 14 2 = c.contributorsHeard % 65536 ∧
    fieldAt c.octets 16 2 = c.estimatedContributors % 65536 := by
  simp [WindowCounts.octets, fieldAt_append_left, fieldAt_append_right]

theorem Figures.receptionOctets_fields (f : Figures) :
    fieldAt f.receptionOctets 0 2 = f.dispositions.late % 65536 ∧
    fieldAt f.receptionOctets 2 2 = f.dispositions.duplicate % 65536 ∧
    fieldAt f.receptionOctets 4 2 = f.dispositions.farAhead % 65536 ∧
    fieldAt f.receptionOctets 6 2 = f.addressClashes % 65536 := by
  simp [Figures.receptionOctets, fieldAt_append_left, fieldAt_append_right]

/-! ### The parts at their offsets (R195) -/

theorem Record.octets_bands (r : Record) :
    StandsAt r.octets 0 r.headOctets ∧ StandsAt r.octets 10 (bandOctets r.figures.energy) ∧
    StandsAt r.octets 58 (bandOctets r.figures.commonShare) ∧
    StandsAt r.octets 106 (plantOctets6 r.figures.complexEnergy) ∧
    StandsAt r.octets 118 (peakOctets r.figures.peak.heat) ∧ StandsAt r.octets 137 (peakOctets r.figures.peak.cool) := by
  have hhead := StandsAt.of_eq r.octets_eq
  have henergy := hhead.right (n := 10) (by simp)
  have hshare := henergy.right (n := 48) (by simp)
  have hcomplex := hshare.right (n := 48) (by simp)
  have hheat := hcomplex.right (n := 12) (by simp)
  have hcool := hheat.right (n := 19) (by simp)
  exact ⟨hhead.left, henergy.left, hshare.left, hcomplex.left, hheat.left, hcool.left⟩

theorem Record.octets_counts (r : Record) :
    StandsAt r.octets 156 r.figures.flowOctets ∧ StandsAt r.octets 166 r.figures.counts.octets ∧
    StandsAt r.octets 184 r.figures.receptionOctets ∧ StandsAt r.octets 192 r.rxErrors.octets ∧
    StandsAt r.octets 200 (plantOctets6 r.energyCost) ∧ StandsAt r.octets 212 (plantOctets6 r.commonCost) := by
  have hrest := StandsAt.of_eq r.octets_eq
  have hpeaks := (((hrest.right (n := 10) (by simp)).right (n := 48) (by simp)).right (n := 48) (by simp)).right (n := 12)
    (by simp)
  have hflow := (hpeaks.right (n := 19) (by simp)).right (n := 19) (by simp)
  have hcounts := hflow.right (n := 10) (by simp)
  have hreception := hcounts.right (n := 18) (by simp)
  have herrors := hreception.right (n := 8) (by simp)
  have hcost := herrors.right (n := 8) (by simp)
  exact ⟨hflow.left, hcounts.left, hreception.left, herrors.left, hcost.left, hcost.right (n := 12) (by simp)⟩

/-- R195: a peak record as it stands in a response, absent or with its fields. -/
theorem peakFields_of_standsAt {l : List Octet} {base : Nat} {k : Option Peak} (h : StandsAt l base (peakOctets k)) :
    (k = none → fieldAt l base 19 = 0) ∧
    ∀ p, k = some p →
      octetAt l base = 0x01 ∧ fieldAt l (base + 1) 4 = p.index % 2 ^ 32 ∧
      fieldAt l (base + 5) 6 = p.complexDemand % 2 ^ 48 ∧ fieldAt l (base + 11) 4 = p.ownDemand % 2 ^ 32 ∧
      fieldAt l (base + 15) 1 = p.contributors % 256 ∧ fieldAt l (base + 16) 3 = p.sharePpm % 2 ^ 24 := by
  refine ⟨?_, ?_⟩
  · rintro rfl
    exact (h.fieldAt 0 rfl (by simp)).trans (fieldAt_zeros 19 0 19)
  · rintro p rfl
    obtain ⟨p0, p1, p5, p11, p15, p16⟩ := peakOctets_fields p
    exact ⟨(h.octetAt 0 rfl (by simp)).trans p0, (h.fieldAt 1 rfl (by simp)).trans p1,
      (h.fieldAt 5 rfl (by simp)).trans p5, (h.fieldAt 11 rfl (by simp)).trans p11,
      (h.fieldAt 15 rfl (by simp)).trans p15, (h.fieldAt 16 rfl (by simp)).trans p16⟩

/-- Settles O34: each field of FETCH RECORD in the part of the record it belongs to. -/
theorem fetchRecordLayout : Obligations.FetchRecordLayout := by
  intro s hopen
  rw [exec_of_hostEffect (e := fetchEffect) rfl]
  refine ⟨fun hempty => ?_, fun x rest hqueue => ⟨x.octets, ?_, by simp [Record.octets_eq], ?_⟩⟩
  · refine takeCommand_of_respond hopen ?_
    simp only [fetchEffect, hempty]
    rfl
  · refine takeCommand_of_respond hopen ?_
    simp only [fetchEffect, hqueue]
  obtain ⟨hhead, henergy, hshare, hcomplex, hheat, hcool⟩ := x.octets_bands
  obtain ⟨hflow, hcounts, hreception, herrors, hcost, hcommon⟩ := x.octets_counts
  obtain ⟨h0, h1, h2, h3, h5, h7, h9⟩ := x.headOctets_fields
  obtain ⟨f0, f6⟩ := x.figures.flowOctets_fields
  obtain ⟨n0, n2, n4, n6, n8, n10, n12, n14, n16⟩ := x.figures.counts.octets_fields
  obtain ⟨d0, d2, d4, d6⟩ := x.figures.receptionOctets_fields
  obtain ⟨e0, e2, e4, e6⟩ := x.rxErrors.octets_fields
  obtain ⟨x0, x6⟩ := plantOctets6_fields x.figures.complexEnergy
  obtain ⟨y0, y6⟩ := plantOctets6_fields x.energyCost
  obtain ⟨z0, z6⟩ := plantOctets6_fields x.commonCost
  obtain ⟨hpartial, hsaturated, hfour⟩ := recordFlagsOctet_bits x.partialDay x.saturated
  have hflags : octetAt x.octets 9 = recordFlagsOctet x.partialDay x.saturated := (hhead.octetAt 9 rfl (by simp)).trans h9
  rw [hflags]
  refine ⟨(hhead.octetAt 0 rfl (by simp)).trans h0, (hhead.fieldAt 1 rfl (by simp)).trans h1,
    (hhead.octetAt 2 rfl (by simp)).trans h2, (hhead.fieldAt 3 rfl (by simp)).trans h3,
    (hhead.fieldAt 5 rfl (by simp)).trans h5, (hhead.fieldAt 7 rfl (by simp)).trans h7, hpartial, hsaturated, hfour,
    fun b hb => ?bands,
    (hcomplex.fieldAt 0 rfl (by simp)).trans x0, (hcomplex.fieldAt 6 rfl (by simp)).trans x6, fun p base hp => ?peaks,
    (hflow.fieldAt 0 rfl (by simp)).trans f0, (hflow.fieldAt 6 rfl (by simp)).trans f6,
    (hcounts.fieldAt 0 rfl (by simp)).trans n0, (hcounts.fieldAt 2 rfl (by simp)).trans n2,
    (hcounts.fieldAt 4 rfl (by simp)).trans n4, (hcounts.fieldAt 6 rfl (by simp)).trans n6,
    (hcounts.fieldAt 8 rfl (by simp)).trans n8, (hcounts.fieldAt 10 rfl (by simp)).trans n10,
    (hcounts.fieldAt 12 rfl (by simp)).trans n12, (hcounts.fieldAt 14 rfl (by simp)).trans n14,
    (hcounts.fieldAt 16 rfl (by simp)).trans n16,
    (hreception.fieldAt 0 rfl (by simp)).trans d0, (hreception.fieldAt 2 rfl (by simp)).trans d2,
    (hreception.fieldAt 4 rfl (by simp)).trans d4, (hreception.fieldAt 6 rfl (by simp)).trans d6,
    (herrors.fieldAt 0 rfl (by simp)).trans e0, (herrors.fieldAt 2 rfl (by simp)).trans e2,
    (herrors.fieldAt 4 rfl (by simp)).trans e4, (herrors.fieldAt 6 rfl (by simp)).trans e6,
    (hcost.fieldAt 0 rfl (by simp)).trans y0, (hcost.fieldAt 6 rfl (by simp)).trans y6,
    (hcommon.fieldAt 0 rfl (by simp)).trans z0, (hcommon.fieldAt 6 rfl (by simp)).trans z6⟩
  case bands =>
    obtain ⟨b0, b24⟩ := bandOctets_fields x.figures.energy hb
    obtain ⟨c0, c24⟩ := bandOctets_fields x.figures.commonShare hb
    exact ⟨(henergy.fieldAt (6 * b) rfl (by rw [bandOctets_length]; omega)).trans b0,
      (henergy.fieldAt (24 + 6 * b) (by omega) (by rw [bandOctets_length]; omega)).trans b24,
      (hshare.fieldAt (6 * b) rfl (by rw [bandOctets_length]; omega)).trans c0,
      (hshare.fieldAt (24 + 6 * b) (by omega) (by rw [bandOctets_length]; omega)).trans c24⟩
  case peaks =>
    rcases hp with ⟨rfl, rfl⟩ | ⟨rfl, rfl⟩
    · exact peakFields_of_standsAt hheat
    · exact peakFields_of_standsAt hcool

end Sys2Proof.Machine

/-! SUPPORT. A cycle event at the converter and at the circuits' states (R4 to R14, R173). Settles O22 and O23. -/

namespace Sys2Proof.Machine

variable {s : State}

/-! ### The kind of a cycle event (R6, R8) -/

/-- R6: the kind of the cycle event the station takes. -/
def State.cycleKind (s : State) : EventKind :=
  eventKind s.station.supplyMode (nextBackupCount s.station.supplyMode s.converter.backupCount) s.converter.state

theorem nextBackupCount_eq {mode : SupplyMode} {count : Nat} (h : count ≤ 7) :
    nextBackupCount mode count = if mode = .backup then if count = 0 then 7 else count - 1 else count := by
  unfold nextBackupCount
  split
  · split <;> omega
  · rfl

theorem eventKind_iff (mode : SupplyMode) (backup : Nat) (state : ConverterState) :
    (eventKind mode backup state = .backupHold ↔ mode = .backup ∧ backup ≠ 0) ∧
    (eventKind mode backup state = .restartHold ↔ ¬(mode = .backup ∧ backup ≠ 0) ∧ state = .restarting) ∧
    (eventKind mode backup state = .conversion ↔ ¬(mode = .backup ∧ backup ≠ 0) ∧ ¬state = .restarting) := by
  unfold eventKind
  split
  · next hold => simp [hold]
  · next hnot =>
    split
    · next hrestart => simp [hnot, hrestart]
    · next hrun => simp [hnot, hrun]

/-- R8: of eight cycle events in BACKUP the one that reaches backup count 0 is no hold. -/
theorem State.backupHold_iff (h : s.converter.backupCount ≤ 7) :
    (s.station.supplyMode = .backup ∧ nextBackupCount s.station.supplyMode s.converter.backupCount ≠ 0) ↔
      s.station.supplyMode = .backup ∧ s.converter.backupCount ≠ 1 := by
  refine and_congr_right fun hm => ?_
  rw [nextBackupCount_eq h, if_pos hm]
  split <;> omega

/-! ### The cycle event as a whole -/

/-- R4, R9 to R21: a circuit's part of the cycle event the station takes. -/
def State.circuitCycle (s : State) (p : Plant) (supply ret : Reading) : CircuitMeter × CycleResult :=
  (s.meters.get p).cycle p (s.items.pulse.get p) s.items.dtCutoff s.cycleKind supply ret

theorem State.cycle_meters (hs hr cs cr : Sensor) :
    (s.cycle hs hr cs cr).meters =
      ⟨(s.circuitCycle .heat (sensorReading hs) (sensorReading hr)).1,
        (s.circuitCycle .cool (sensorReading cs) (sensorReading cr)).1⟩ := by
  unfold State.cycle State.raiseIf
  dsimp only
  repeat' split
  all_goals rfl

theorem State.cycle_openEntry (hs hr cs cr : Sensor) :
    (s.cycle hs hr cs cr).windows.openEntry =
      s.windows.openEntry.map fun e =>
        e.accrue (s.circuitCycle .heat (sensorReading hs) (sensorReading hr)).2
          (s.circuitCycle .cool (sensorReading cs) (sensorReading cr)).2 := by
  unfold State.cycle State.raiseIf
  dsimp only
  repeat' split
  all_goals rfl

/-- R13, R19: the two causes a cycle event raises. -/
theorem State.cycle_flags (hs hr cs cr : Sensor) :
    let heat := (s.circuitCycle .heat (sensorReading hs) (sensorReading hr)).2
    let cool := (s.circuitCycle .cool (sensorReading cs) (sensorReading cr)).2
    flagOf (s.cycle hs hr cs cr).causes.pending .flowOverrange =
      (flagOf s.causes.pending .flowOverrange || (heat.overrange || cool.overrange)) ∧
    flagOf (s.cycle hs hr cs cr).causes.pending .sensorFault =
      (flagOf s.causes.pending .sensorFault || (heat.sensorFault || cool.sensorFault)) := by
  intro heat cool
  unfold State.cycle
  dsimp only
  rw [State.flagOf_raiseIf, State.flagOf_raiseIf, State.flagOf_raiseIf, State.flagOf_raiseIf]
  simp only [reduceCtorEq, decide_false, decide_true, Bool.and_true, Bool.and_false, Bool.or_false]
  exact ⟨rfl, rfl⟩

theorem exec_cycleEvent_of_due (hr : s.rstnHigh = true) (hd : s.timebase.due.cycleEvent = true) (a b c d : Sensor) :
    exec (.cycleEvent a b c d) s = .next (s.cycle a b c d) := by
  rw [exec_cycleEvent, takeEvent_of_high hr, if_pos hd]

/-! ### The converter (R5, R6, R8) -/

theorem Converter.cycle_counts (c : Converter) (kind : EventKind) (backup : Nat) (delivered : Readings) (draw : Nat) :
    (c.cycle kind backup delivered draw).state = c.state ∧ (c.cycle kind backup delivered draw).backupCount = backup ∧
    (c.cycle kind backup delivered draw).restartCount =
      if c.state = .restarting then c.restartCount - 1 else c.restartCount := ⟨rfl, rfl, rfl⟩

/-- R6: the readings after a backup hold stay, after a restart hold have status NONE, and after a conversion are those
delivered. -/
theorem Converter.cycle_readings (c : Converter) (kind : EventKind) (backup : Nat) (delivered : Readings) (draw : Nat) :
    let x := c.cycle kind backup delivered draw
    (kind = .backupHold → x.hs = c.hs ∧ x.hr = c.hr ∧ x.cs = c.cs ∧ x.cr = c.cr) ∧
    (kind = .restartHold → x.hs.status = .noReading ∧ x.hr.status = .noReading ∧ x.cs.status = .noReading ∧
      x.cr.status = .noReading) ∧
    (kind = .conversion → x.hs = delivered.hs ∧ x.hr = delivered.hr ∧ x.cs = delivered.cs ∧ x.cr = delivered.cr) := by
  cases kind <;> simp [Converter.cycle, noReadings]

/-- R5, R6, R173: what a cycle event changes beside the meters, the OPEN entry and the causes. -/
theorem State.cycle_eq (hs hr cs cr : Sensor) :
    s.cycle hs hr cs cr =
      { s with
        timebase := { s.timebase with due := { s.timebase.due with cycleEvent := false } }
        converter :=
          s.converter.cycle s.cycleKind (nextBackupCount s.station.supplyMode s.converter.backupCount)
            ⟨sensorReading hs, sensorReading hr, sensorReading cs, sensorReading cr⟩ s.freeCount
        meters := (s.cycle hs hr cs cr).meters
        windows := { s.windows with openEntry := (s.cycle hs hr cs cr).windows.openEntry }
        causes := (s.cycle hs hr cs cr).causes, freeCount := (s.cycle hs hr cs cr).freeCount
        station :=
          { s.station with
            recoveryCount :=
              if s.station.supplyMode = .recovering then s.station.recoveryCount - 1 else s.station.recoveryCount } } := by
  have hstation : s.station.countRecovery =
      { s.station with
        recoveryCount :=
          if s.station.supplyMode = .recovering then s.station.recoveryCount - 1 else s.station.recoveryCount } := by
    unfold Station.countRecovery
    split <;> rfl
  unfold State.cycle State.raiseIf
  dsimp only
  rw [hstation]
  repeat' split
  all_goals rfl

/-- Settles O22: the converter's counts and readings by the kind of the event. -/
theorem cycleEventConverter : Obligations.CycleEventConverter := by
  refine ⟨fun v => ⟨rfl, rfl, rfl⟩, fun s hs hr cs cr hrstn => ⟨fun hnot => ?_, fun hdue hcount => ?_⟩⟩
  · rw [exec_cycleEvent, takeEvent_of_high hrstn, if_neg (by simp [hnot])]
  intro backup backupHold restarting
  have hbackup : nextBackupCount s.station.supplyMode s.converter.backupCount = backup := nextBackupCount_eq hcount
  obtain ⟨hhold, hrestart, hconversion⟩ := eventKind_iff s.station.supplyMode backup s.converter.state
  have hraised : CauseUnit.RaisedFrom Cause.ofCycle s.causes (s.cycle hs hr cs cr).causes :=
    State.cycle_raised .refl subset_rfl
  obtain ⟨hstate, hbackupCount, hrestartCount⟩ := s.converter.cycle_counts s.cycleKind backup
    ⟨sensorReading hs, sensorReading hr, sensorReading cs, sensorReading cr⟩ s.freeCount
  obtain ⟨hkept, hnone, hdelivered⟩ := s.converter.cycle_readings s.cycleKind backup
    ⟨sensorReading hs, sensorReading hr, sensorReading cs, sensorReading cr⟩ s.freeCount
  have hkind : s.cycleKind = eventKind s.station.supplyMode backup s.converter.state := by rw [State.cycleKind, hbackup]
  refine ⟨_, (s.cycle hs hr cs cr).meters, (s.cycle hs hr cs cr).windows.openEntry, (s.cycle hs hr cs cr).causes,
    (s.cycle hs hr cs cr).freeCount, ?_, hstate, hbackupCount, hrestartCount, fun h => hkept ?_, fun h h' => hnone ?_,
    fun h h' => hdelivered ?_, fun c hc hc' => ?_, hraised.controls⟩
  · rw [exec_cycleEvent_of_due hrstn hdue]
    conv_lhs => rw [State.cycle_eq, hbackup]
  · exact hkind.trans (hhold.mpr h)
  · exact hkind.trans (hrestart.mpr ⟨h, h'⟩)
  · exact hkind.trans (hconversion.mpr ⟨h, h'⟩)
  · exact hraised.other (by simp [Cause.ofCycle, hc, hc'])

/-! ### A circuit (R4, R9 to R14) -/

/-- R10 to R14: a circuit's meter at an event of a kind, before its cycle is accounted. -/
def CircuitMeter.moved (m : CircuitMeter) (kind : EventKind) (supply ret : Reading) : CircuitMeter :=
  if kind = .conversion then (m.latch.storeValid supply ret).transition (supply.isValid && ret.isValid) else m.latch

/-- R13: the transition of the event leads into FAULT. -/
def CircuitMeter.entersFault (m : CircuitMeter) (kind : EventKind) (supply ret : Reading) : Bool :=
  m.state != .fault && (m.moved kind supply ret).state == .fault

section
variable {m : CircuitMeter} {supply ret : Reading} {kind : EventKind}

theorem CircuitMeter.cycle_of_present (hp : m.state ≠ .absent) (circuit : Plant) (weight cutoff : Nat) :
    m.cycle circuit weight cutoff kind supply ret =
      (m.moved kind supply ret).account circuit weight cutoff kind (m.entersFault kind supply ret) := by
  have hheld : (m.state != .fault && m.latch.state == .fault) = false := by
    rw [show m.latch.state = m.state from rfl]
    cases m.state <;> rfl
  unfold CircuitMeter.cycle CircuitMeter.entersFault CircuitMeter.moved
  rw [if_neg hp]
  cases kind with
  | conversion => rfl
  | restartHold => rw [if_neg (by decide), hheld]
  | backupHold => rw [if_neg (by decide), hheld]

/-- R15 to R21: the accounting moves the residue and the lifetime registers alone. -/
theorem CircuitMeter.cycle_frame (hp : m.state ≠ .absent) (circuit : Plant) (weight cutoff : Nat) :
    let x := (m.cycle circuit weight cutoff kind supply ret).1
    let n := m.moved kind supply ret
    x.state = n.state ∧ x.heldSupply = n.heldSupply ∧ x.heldReturn = n.heldReturn ∧ x.supplyValid = n.supplyValid ∧
    x.returnValid = n.returnValid ∧ x.holdCount = n.holdCount ∧ x.goodRun = n.goodRun ∧
    x.pulseCounter = n.pulseCounter ∧ x.latched = n.latched := by
  rw [CircuitMeter.cycle_of_present hp]
  exact CircuitMeter.account_frame _ _ _ _ _ _

theorem CircuitMeter.moved_of_hold (h : kind ≠ .conversion) : m.moved kind supply ret = m.latch := if_neg h

theorem CircuitMeter.moved_of_conversion (h : kind = .conversion) :
    m.moved kind supply ret = (m.latch.storeValid supply ret).transition (supply.isValid && ret.isValid) := if_pos h

/-- R4, R11 to R14: what the move of an event leaves as it was. -/
theorem CircuitMeter.moved_frame (m : CircuitMeter) (kind : EventKind) (supply ret : Reading) :
    (m.moved kind supply ret).latched = m.pulseCounter ∧ (m.moved kind supply ret).pulseCounter = 0 ∧
    (m.moved kind supply ret).residue = m.residue ∧ (m.moved kind supply ret).lifetimeEnergy = m.lifetimeEnergy ∧
    (m.moved kind supply ret).lifetimeVolume = m.lifetimeVolume := by
  unfold CircuitMeter.moved
  split
  · simp [CircuitMeter.storeValid, CircuitMeter.latch]
  · exact ⟨rfl, rfl, rfl, rfl, rfl⟩

/-- R10: each valid reading of a conversion is stored and sets its mark. -/
theorem CircuitMeter.moved_held (h : kind = .conversion) :
    (m.moved kind supply ret).heldSupply = (if supply.status = .valid then supply.value else m.heldSupply) ∧
    (m.moved kind supply ret).heldReturn = (if ret.status = .valid then ret.value else m.heldReturn) ∧
    ((m.moved kind supply ret).supplyValid = true ↔ m.supplyValid = true ∨ supply.status = .valid) ∧
    ((m.moved kind supply ret).returnValid = true ↔ m.returnValid = true ∨ ret.status = .valid) := by
  rw [CircuitMeter.moved_of_conversion h]
  simp [CircuitMeter.storeValid, CircuitMeter.latch, Reading.isValid]

/-- R11 to R13: the three fields a transition moves, by the state before and whether both readings are valid. -/
theorem CircuitMeter.transition_cases (m : CircuitMeter) (valid : Bool) :
    let n := m.transition valid
    (m.state = .normal → valid = true → n.state = .normal ∧ n.holdCount = m.holdCount) ∧
    (m.state = .normal → valid = false → n.state = .holding ∧ n.holdCount = 1) ∧
    (m.state = .holding → valid = true → n.state = .normal ∧ n.holdCount = 0) ∧
    (m.state = .holding → valid = false → m.holdCount < 7 → n.state = .holding ∧ n.holdCount = m.holdCount + 1) ∧
    (m.state = .holding → valid = false → 7 ≤ m.holdCount → n.state = .fault ∧ n.holdCount = 8 ∧ n.goodRun = 0) ∧
    (m.state = .fault → valid = true → m.goodRun = 0 →
      n.state = .fault ∧ n.holdCount = m.holdCount ∧ n.goodRun = 1) ∧
    (m.state = .fault → valid = true → m.goodRun ≠ 0 → n.state = .normal ∧ n.holdCount = 0 ∧ n.goodRun = 0) ∧
    (m.state = .fault → valid = false → n.state = .fault ∧ n.holdCount = m.holdCount ∧ n.goodRun = 0) := by
  intro n
  refine ⟨fun hs hv => ?_, fun hs hv => ?_, fun hs hv => ?_, fun hs hv hc => ?_, fun hs hv hc => ?_, fun hs hv hg => ?_,
    fun hs hv hg => ?_, fun hs hv => ?_⟩
  case refine_4 =>
    have hlow : m.holdCount + 1 < 8 := by omega
    simp [n, CircuitMeter.transition, hs, hv, hlow]
  case refine_5 =>
    have hhigh : ¬m.holdCount + 1 < 8 := by omega
    simp [n, CircuitMeter.transition, hs, hv, hhigh]
  case refine_6 | refine_7 => simp [n, CircuitMeter.transition, hs, hv, hg]
  all_goals simp [n, CircuitMeter.transition, hs, hv]

theorem CircuitMeter.account_sensorFault (m : CircuitMeter) (circuit : Plant) (weight cutoff : Nat) (kind : EventKind)
    (enters : Bool) : (m.account circuit weight cutoff kind enters).2.sensorFault = enters := by
  unfold CircuitMeter.account
  dsimp only
  repeat' split
  all_goals rfl

/-- R13: SENSOR_FAULT on an entry to FAULT and at no other event. -/
theorem CircuitMeter.cycle_sensorFault (m : CircuitMeter) (circuit : Plant) (weight cutoff : Nat) :
    let r := m.cycle circuit weight cutoff kind supply ret
    r.2.sensorFault = true ↔ m.state ≠ .absent ∧ m.state ≠ .fault ∧ r.1.state = .fault := by
  intro r
  by_cases hp : m.state = .absent
  · have hr : r = (m, .nothing) := CircuitMeter.cycle_of_absent hp _ _ _ _ _ _
    simp [hr, hp, CycleResult.nothing]
  · have hr : r = _ := CircuitMeter.cycle_of_present hp circuit weight cutoff
    rw [hr, CircuitMeter.account_sensorFault, (CircuitMeter.account_frame _ _ _ _ _ _).1]
    simp [CircuitMeter.entersFault, hp]

end

/-- Settles O23: a circuit's move at the event, by the kind of the event and the state before. -/
theorem cycleEventCircuitStates : Obligations.CycleEventCircuitStates := by
  intro s hs hr cs cr hrstn hdue hcount conversion entersFault
  have hkind : s.cycleKind = .conversion ↔ conversion := by
    obtain ⟨-, -, hiff⟩ := eventKind_iff s.station.supplyMode
      (nextBackupCount s.station.supplyMode s.converter.backupCount) s.converter.state
    rw [State.cycleKind, hiff, State.backupHold_iff hcount]
    refine and_congr_right fun _ => ?_
    cases s.converter.state <;> simp
  refine ⟨s.cycle hs hr cs cr, exec_cycleEvent_of_due hrstn hdue _ _ _ _, ?_, fun p supply ret hp => ?_⟩
  · rw [(State.cycle_flags hs hr cs cr).2, Bool.or_eq_true, Bool.or_eq_true, State.cycle_meters]
    exact or_congr_right (or_congr (CircuitMeter.cycle_sensorFault _ _ _ _) (CircuitMeter.cycle_sensorFault _ _ _ _))
  intro m m' good
  have hm' : m' = (s.circuitCycle p supply ret).1 := by
    rcases hp with ⟨rfl, rfl, rfl⟩ | ⟨rfl, rfl, rfl⟩
    · exact congrArg PerPlant.heat (State.cycle_meters hs hr cs cr)
    · exact congrArg PerPlant.cool (State.cycle_meters hs hr cs cr)
  obtain ⟨n, hn⟩ : ∃ n, n = m.moved s.cycleKind supply ret := ⟨_, rfl⟩
  obtain ⟨hlatched, hpulses, -, -, -⟩ := m.moved_frame s.cycleKind supply ret
  have hframe (hp : m.state ≠ .absent) := CircuitMeter.cycle_frame hp p (s.items.pulse.get p) s.items.dtCutoff
    (kind := s.cycleKind) (supply := supply) (ret := ret)
  simp only [← hn, ← show m' = (m.cycle p (s.items.pulse.get p) s.items.dtCutoff s.cycleKind supply ret).1 from hm'] at hframe
  have hmoves (hc : conversion) :
      n = (m.latch.storeValid supply ret).transition (supply.isValid && ret.isValid) :=
    hn.trans (CircuitMeter.moved_of_conversion (hkind.mpr hc))
  have hvalid (h : good) : (supply.isValid && ret.isValid) = true := by
    simpa [Reading.isValid] using h
  have hinvalid (h : ¬good) : (supply.isValid && ret.isValid) = false := by
    rw [← Bool.not_eq_true, Bool.and_eq_true]
    simpa [Reading.isValid, good] using h
  obtain ⟨c1, c2, c3, c4, c5, c6, c7, c8⟩ :=
    (m.latch.storeValid supply ret).transition_cases (supply.isValid && ret.isValid)
  rw [← hn] at hlatched hpulses
  have hcounts (hp : m.state ≠ .absent) : m'.state = n.state ∧ m'.holdCount = n.holdCount ∧ m'.goodRun = n.goodRun := by
    obtain ⟨hstate, -, -, -, -, hhold, hrun, -, -⟩ := hframe hp
    exact ⟨hstate, hhold, hrun⟩
  have hmoved {x : CircuitState} (hs : m.state = x) (hx : x ≠ .absent) (hc : conversion) := hmoves hc ▸ hcounts (hs ▸ hx)
  refine ⟨fun hp => ?absent, fun hp => ?latch, fun hp hc => ?hold, fun hp hc => ?store, fun hs hc hg => ?_, fun hs hc hg => ?_,
    fun hs hc hg => ?_, fun hs hc hg hlow => ?_, fun hs hc hg hhigh => ?_, fun hs hc hg hrun => ?_,
    fun hs hc hg hrun => ?_, fun hs hc hg => ?_⟩
  case absent =>
    rw [hm']
    exact congrArg Prod.fst (CircuitMeter.cycle_of_absent hp _ _ _ _ _ _)
  case latch =>
    obtain ⟨-, -, -, -, -, -, -, hpulse, hlatch⟩ := hframe hp
    exact ⟨hlatch.trans hlatched, hpulse.trans hpulses⟩
  case hold =>
    obtain ⟨hstate, hsupply, hreturn, hmark, hmark', hhold, hrun, -, -⟩ := hframe hp
    have hkept : n = m.latch := hn.trans (CircuitMeter.moved_of_hold (mt hkind.mp hc))
    rw [hkept] at hstate hsupply hreturn hmark hmark' hhold hrun
    exact ⟨hstate, hhold, hrun, hsupply, hreturn, hmark, hmark'⟩
  case store =>
    obtain ⟨-, hsupply, hreturn, hmark, hmark', -, -, -, -⟩ := hframe hp
    rw [hsupply, hreturn, hmark, hmark', hn]
    exact CircuitMeter.moved_held (hkind.mpr hc)
  · obtain ⟨hstate, hhold, -⟩ := hmoved hs (by decide) hc
    rw [hstate, hhold]
    exact c1 hs (hvalid hg)
  · obtain ⟨hstate, hhold, -⟩ := hmoved hs (by decide) hc
    rw [hstate, hhold]
    exact c2 hs (hinvalid hg)
  · obtain ⟨hstate, hhold, -⟩ := hmoved hs (by decide) hc
    rw [hstate, hhold]
    exact c3 hs (hvalid hg)
  · obtain ⟨hstate, hhold, -⟩ := hmoved hs (by decide) hc
    rw [hstate, hhold]
    exact c4 hs (hinvalid hg) hlow
  · obtain ⟨hstate, hhold, hgood⟩ := hmoved hs (by decide) hc
    rw [hstate, hhold, hgood]
    exact c5 hs (hinvalid hg) hhigh
  · obtain ⟨hstate, hhold, hgood⟩ := hmoved hs (by decide) hc
    rw [hstate, hhold, hgood]
    exact c6 hs (hvalid hg) hrun
  · obtain ⟨hstate, hhold, hgood⟩ := hmoved hs (by decide) hc
    rw [hstate, hhold, hgood]
    exact c7 hs (hvalid hg) hrun
  · obtain ⟨hstate, hhold, hgood⟩ := hmoved hs (by decide) hc
    rw [hstate, hhold, hgood]
    exact c8 hs (hinvalid hg)

end Sys2Proof.Machine

/-! SUPPORT. The energy of a cycle event (R15 to R21). Settles O24. -/

namespace Sys2Proof.Machine

/-! ### The accounting of a circuit's cycle (R15 to R19) -/

section
variable (m : CircuitMeter) (circuit : Plant) (weight cutoff : Nat) (kind : EventKind) (enters : Bool)

/-- R16, R17, R18: N of a cycle. -/
def CircuitMeter.units : Nat :=
  energyUnits (m.latched * weight) (effectiveDifference cutoff (rawDifference circuit m.heldSupply m.heldReturn)) m.residue

theorem CircuitMeter.computesEnergy_iff :
    m.computesEnergy = true ↔
      (m.state = .normal ∨ m.state = .holding) ∧ m.supplyValid = true ∧ m.returnValid = true := by
  simp [CircuitMeter.computesEnergy, and_assoc]

theorem CircuitMeter.account_of_energy (hc : m.computesEnergy = true) (hv : 0 < m.latched * weight) :
    let x := (m.account circuit weight cutoff kind enters).1
    let r := (m.account circuit weight cutoff kind enters).2
    r.energy = m.units circuit weight cutoff / 100000 ∧ x.residue = m.units circuit weight cutoff % 100000 ∧
    x.lifetimeEnergy = (m.lifetimeEnergy + m.units circuit weight cutoff / 100000) % 2 ^ 64 := by
  unfold CircuitMeter.account
  dsimp only
  rw [if_pos hc, if_neg hv.ne']
  exact ⟨rfl, rfl, rfl⟩

theorem CircuitMeter.account_of_none (hl : m.lifetimeEnergy < 2 ^ 64)
    (h : ¬(m.computesEnergy = true ∧ 0 < m.latched * weight)) :
    let x := (m.account circuit weight cutoff kind enters).1
    let r := (m.account circuit weight cutoff kind enters).2
    r.energy = 0 ∧ x.residue = m.residue ∧ x.lifetimeEnergy = m.lifetimeEnergy := by
  unfold CircuitMeter.account
  dsimp only
  split
  · next hc =>
    rw [if_pos (Nat.eq_zero_of_not_pos fun hv => h ⟨hc, hv⟩)]
    exact ⟨rfl, rfl, rfl⟩
  · exact ⟨rfl, rfl, Nat.mod_eq_of_lt hl⟩

/-- R16, R21: the volume of a cycle is metered where energy is computed, and counts in its lifetime register anyway. -/
theorem CircuitMeter.account_volume (hl : m.lifetimeVolume < 2 ^ 64) :
    let x := (m.account circuit weight cutoff kind enters).1
    let r := (m.account circuit weight cutoff kind enters).2
    x.lifetimeVolume = (m.lifetimeVolume + m.latched * weight) % 2 ^ 64 ∧
    (m.computesEnergy = true → r.metered = m.latched * weight ∧ r.unmetered = 0) ∧
    (¬m.computesEnergy = true → r.metered = 0 ∧ r.unmetered = m.latched * weight) := by
  unfold CircuitMeter.account
  dsimp only
  split
  · next hc =>
    split
    · next hv => exact ⟨by rw [hv]; exact (Nat.mod_eq_of_lt hl).symm, fun _ => ⟨hv.symm, rfl⟩, fun hn => absurd hc hn⟩
    · exact ⟨rfl, fun _ => ⟨rfl, rfl⟩, fun hn => absurd hc hn⟩
  · next hc => exact ⟨rfl, fun hn => absurd hn hc, fun _ => ⟨rfl, rfl⟩⟩

theorem CircuitMeter.account_reverse :
    (m.account circuit weight cutoff kind enters).2.reverse =
      if m.computesEnergy = true ∧ 0 < m.latched * weight ∧ rawDifference circuit m.heldSupply m.heldReturn < 0 then 1
      else 0 := by
  unfold CircuitMeter.account
  dsimp only
  split
  · next hc =>
    split
    · next hv => simp [hv, CycleResult.nothing]
    · next hv => simp [hc, Nat.pos_of_ne_zero hv]
  · next hc => simp [hc, CycleResult.nothing]

theorem CircuitMeter.account_overrange :
    (m.account circuit weight cutoff kind enters).2.overrange = decide (m.latched = 255) := by
  unfold CircuitMeter.account
  dsimp only
  repeat' split
  all_goals rfl

/-- R11 to R14, R17, R19: the flags of a cycle. -/
theorem CircuitMeter.account_flags :
    (m.account circuit weight cutoff kind enters).2.flags =
      (holdFlags kind m.state).union
        { OwnFlags.clear with
          overrange := decide (m.latched = 255)
          estimated :=
            decide (m.latched = 255 ∨
              m.computesEnergy = true ∧ 0 < m.latched * weight ∧
                10000 < rawDifference circuit m.heldSupply m.heldReturn) } := by
  have hbeyond : (m.latched == 255) = decide (m.latched = 255) := rfl
  unfold CircuitMeter.account
  dsimp only
  split
  · next hc =>
    split
    · next hv => simp [hv, hbeyond, OwnFlags.union]
    · next hv => simp [hc, Nat.pos_of_ne_zero hv, hbeyond, OwnFlags.union, OwnFlags.clear, Bool.or_assoc]
  · next hc => simp [hc, hbeyond, OwnFlags.union]

end

/-- R11 to R14: the flags of an event of a kind in a present circuit. -/
theorem holdFlags_iff (kind : EventKind) {state : CircuitState} (hp : state ≠ .absent) :
    (holdFlags kind state).overrange = false ∧ (holdFlags kind state).partialWindow = false ∧
    ((holdFlags kind state).backup = true ↔ kind = .backupHold) ∧
    ((holdFlags kind state).faulted = true ↔ state = .fault) ∧
    ((holdFlags kind state).estimated = true ↔
      kind = .conversion ∧ state = .holding ∨ kind = .restartHold ∧ (state = .normal ∨ state = .holding)) := by
  cases kind <;> cases state <;> simp [holdFlags, OwnFlags.clear] at hp ⊢

/-! ### A circuit's part of the OPEN entry (R20) -/

/-- R11 to R20: the own flags of a plant once a present circuit's cycle has been added. -/
theorem OwnPart.accrue_flags (o : OwnPart) (m : CircuitMeter) (hp : m.state ≠ .absent) (circuit : Plant) (weight cutoff : Nat)
    (kind : EventKind) (enters : Bool) :
    let f := (o.accrue (m.account circuit weight cutoff kind enters).2).flags
    f.partialWindow = o.flags.partialWindow ∧
    (f.overrange = true ↔ o.flags.overrange = true ∨ m.latched = 255) ∧
    (f.backup = true ↔ o.flags.backup = true ∨ kind = .backupHold) ∧
    (f.faulted = true ↔ o.flags.faulted = true ∨ m.state = .fault) ∧
    (f.estimated = true ↔
      o.flags.estimated = true ∨ m.latched = 255 ∨ (kind = .conversion ∧ m.state = .holding) ∨
        (kind = .restartHold ∧ (m.state = .normal ∨ m.state = .holding)) ∨
        (m.computesEnergy = true ∧ 0 < m.latched * weight ∧
          10000 < rawDifference circuit m.heldSupply m.heldReturn)) := by
  intro f
  obtain ⟨hover, hpartial, hbackup, hfaulted, hestimated⟩ := holdFlags_iff kind hp
  have hf : f = o.flags.union _ := congrArg o.flags.union (m.account_flags circuit weight cutoff kind enters)
  refine ⟨?_, ?_, ?_, ?_, ?_⟩
  all_goals
    rw [hf]
    simp only [OwnFlags.union, OwnFlags.clear, Bool.or_eq_true, decide_eq_true_eq, hover, hpartial, hbackup, hfaulted,
      hestimated, Bool.or_false, Bool.false_eq_true, false_or]
  exact or_congr_right (or_left_comm.trans (or_congr_right or_assoc))

/-- R9: an absent circuit adds nothing. -/
theorem OwnPart.accrue_nothing (o : OwnPart) : o.accrue .nothing = o := by
  simp [OwnPart.accrue, CycleResult.nothing, OwnFlags.union, OwnFlags.clear]

/-! ### The cycle of a present circuit, told of the meter after it -/

section
variable {m : CircuitMeter} {kind : EventKind} {supply ret : Reading}

theorem CircuitMeter.transition_present (hp : m.state ≠ .absent) (valid : Bool) : (m.transition valid).state ≠ .absent := by
  unfold CircuitMeter.transition
  repeat' split
  all_goals simp_all

theorem CircuitMeter.moved_present (hp : m.state ≠ .absent) : (m.moved kind supply ret).state ≠ .absent := by
  unfold CircuitMeter.moved
  split
  · exact CircuitMeter.transition_present (by exact hp) _
  · exact hp

/-- R15: the meter after the event tells whether its cycle computes energy. -/
def CircuitMeter.Computes (x : CircuitMeter) : Prop :=
  (x.state = .normal ∨ x.state = .holding) ∧ x.supplyValid = true ∧ x.returnValid = true

/-- R16: the raw difference of the held temperatures. -/
def CircuitMeter.raw (x : CircuitMeter) (circuit : Plant) : Int := rawDifference circuit x.heldSupply x.heldReturn

variable (hp : m.state ≠ .absent) (circuit : Plant) (weight cutoff : Nat)
include hp

/-- R15, R16: what the accounting reads is what the meter shows after it. -/
theorem CircuitMeter.moved_reads :
    let n := m.moved kind supply ret
    let x := (m.cycle circuit weight cutoff kind supply ret).1
    n.latched * weight = m.pulseCounter * weight ∧ (n.computesEnergy = true ↔ x.Computes) ∧
    rawDifference circuit n.heldSupply n.heldReturn = x.raw circuit ∧
    n.units circuit weight cutoff =
      energyUnits (m.pulseCounter * weight) (effectiveDifference cutoff (x.raw circuit)) m.residue := by
  intro n x
  obtain ⟨hlatched, -, hresidue, -, -⟩ := m.moved_frame kind supply ret
  obtain ⟨hstate, hsupply, hreturn, hmark, hmark', -, -, -, -⟩ := CircuitMeter.cycle_frame hp circuit weight cutoff
    (kind := kind) (supply := supply) (ret := ret)
  have hraw : rawDifference circuit n.heldSupply n.heldReturn = x.raw circuit := by
    rw [CircuitMeter.raw, hsupply, hreturn]
  refine ⟨by rw [hlatched], ?_, hraw, ?_⟩
  · rw [CircuitMeter.computesEnergy_iff, CircuitMeter.Computes, hstate, hmark, hmark']
  · rw [CircuitMeter.units, hlatched, hresidue, ← hraw]

/-- R17, R18, R21: the energy of a present circuit's cycle. -/
theorem CircuitMeter.cycle_energy (hl : m.lifetimeEnergy < 2 ^ 64) :
    let x := (m.cycle circuit weight cutoff kind supply ret).1
    let r := (m.cycle circuit weight cutoff kind supply ret).2
    let units := energyUnits (m.pulseCounter * weight) (effectiveDifference cutoff (x.raw circuit)) m.residue
    (x.Computes → 0 < m.pulseCounter * weight →
      r.energy = units / 100000 ∧ x.residue = units % 100000 ∧
      x.lifetimeEnergy = (m.lifetimeEnergy + units / 100000) % 2 ^ 64) ∧
    (¬(x.Computes ∧ 0 < m.pulseCounter * weight) →
      r.energy = 0 ∧ x.residue = m.residue ∧ x.lifetimeEnergy = m.lifetimeEnergy) := by
  intro x r units
  obtain ⟨hvolume, hcomputes, -, hunits⟩ := CircuitMeter.moved_reads hp circuit weight cutoff
    (kind := kind) (supply := supply) (ret := ret)
  obtain ⟨-, -, hresidue, henergy, -⟩ := m.moved_frame kind supply ret
  have hx : m.cycle circuit weight cutoff kind supply ret = _ := CircuitMeter.cycle_of_present hp circuit weight cutoff
  refine ⟨fun hc hv => ?_, fun hnot => ?_⟩
  · have haccount := CircuitMeter.account_of_energy (m.moved kind supply ret) circuit weight cutoff kind
      (m.entersFault kind supply ret) (hcomputes.mpr hc) (hvolume ▸ hv)
    rw [hunits, henergy, ← hx] at haccount
    exact haccount
  · have haccount := CircuitMeter.account_of_none (m.moved kind supply ret) circuit weight cutoff kind
      (m.entersFault kind supply ret) (henergy ▸ hl) (by rw [hcomputes, hvolume]; exact hnot)
    rw [hresidue, henergy, ← hx] at haccount
    exact haccount

/-- R16, R19 to R21: the volume of a present circuit's cycle, its reverse mark and its overrange. -/
theorem CircuitMeter.cycle_volume (hl : m.lifetimeVolume < 2 ^ 64) :
    let x := (m.cycle circuit weight cutoff kind supply ret).1
    let r := (m.cycle circuit weight cutoff kind supply ret).2
    x.lifetimeVolume = (m.lifetimeVolume + m.pulseCounter * weight) % 2 ^ 64 ∧
    (x.Computes → r.metered = m.pulseCounter * weight ∧ r.unmetered = 0) ∧
    (¬x.Computes → r.metered = 0 ∧ r.unmetered = m.pulseCounter * weight) ∧
    (x.Computes ∧ 0 < m.pulseCounter * weight ∧ x.raw circuit < 0 → r.reverse = 1) ∧
    (¬(x.Computes ∧ 0 < m.pulseCounter * weight ∧ x.raw circuit < 0) → r.reverse = 0) ∧
    r.overrange = decide (m.pulseCounter = 255) := by
  intro x r
  obtain ⟨hvolume, hcomputes, hraw, -⟩ := CircuitMeter.moved_reads hp circuit weight cutoff
    (kind := kind) (supply := supply) (ret := ret)
  obtain ⟨hlatched, -, -, -, hlifetime⟩ := m.moved_frame kind supply ret
  have hx : m.cycle circuit weight cutoff kind supply ret = _ := CircuitMeter.cycle_of_present hp circuit weight cutoff
  obtain ⟨htotal, hmetered, hunmetered⟩ := CircuitMeter.account_volume (m.moved kind supply ret) circuit weight cutoff kind
    (m.entersFault kind supply ret) (hlifetime ▸ hl)
  have hreverse := CircuitMeter.account_reverse (m.moved kind supply ret) circuit weight cutoff kind
    (m.entersFault kind supply ret)
  have hover := CircuitMeter.account_overrange (m.moved kind supply ret) circuit weight cutoff kind
    (m.entersFault kind supply ret)
  rw [hvolume, ← hx] at htotal hmetered hunmetered
  rw [← hx] at hreverse hover
  rw [hvolume, hraw] at hreverse
  rw [hlifetime] at htotal
  rw [hlatched] at hover
  simp only [hcomputes] at hmetered hunmetered
  exact ⟨htotal, hmetered, hunmetered, fun h => hreverse.trans (if_pos (h.imp_left hcomputes.mpr)),
    fun h => hreverse.trans (if_neg (mt (And.imp_left hcomputes.mp) h)), hover⟩

/-- R11 to R20: the own flags of a plant once the cycle of its circuit has been added. -/
theorem CircuitMeter.cycle_flags (o : OwnPart) :
    let x := (m.cycle circuit weight cutoff kind supply ret).1
    let f := (o.accrue (m.cycle circuit weight cutoff kind supply ret).2).flags
    f.partialWindow = o.flags.partialWindow ∧
    (f.overrange = true ↔ o.flags.overrange = true ∨ m.pulseCounter = 255) ∧
    (f.backup = true ↔ o.flags.backup = true ∨ kind = .backupHold) ∧
    (f.faulted = true ↔ o.flags.faulted = true ∨ x.state = .fault) ∧
    (f.estimated = true ↔
      o.flags.estimated = true ∨ m.pulseCounter = 255 ∨ (kind = .conversion ∧ x.state = .holding) ∨
        (kind = .restartHold ∧ (x.state = .normal ∨ x.state = .holding)) ∨
        (x.Computes ∧ 0 < m.pulseCounter * weight ∧ 10000 < x.raw circuit)) := by
  intro x f
  obtain ⟨-, hcomputes, hraw, -⟩ := CircuitMeter.moved_reads hp circuit weight cutoff
    (kind := kind) (supply := supply) (ret := ret)
  obtain ⟨hlatched, -⟩ := m.moved_frame kind supply ret
  obtain ⟨hstate, -⟩ := CircuitMeter.cycle_frame hp circuit weight cutoff (kind := kind) (supply := supply) (ret := ret)
  have hflags := o.accrue_flags (m.moved kind supply ret) (CircuitMeter.moved_present hp) circuit weight cutoff kind
    (m.entersFault kind supply ret)
  rw [← CircuitMeter.cycle_of_present hp circuit weight cutoff] at hflags
  simp only [hcomputes, hraw, hlatched, ← hstate] at hflags
  exact hflags

end

/-! ### The settled statement -/

/-- Settles O24: the cycle of each present circuit, added to its plant's own part of the OPEN entry. -/
theorem cycleEventEnergy : Obligations.CycleEventEnergy := by
  intro s hs hr cs cr e hrstn hdue hok he backupHold restarting
  let supply (p : Plant) : Reading := match p with | .heat => sensorReading hs | .cool => sensorReading cs
  let ret (p : Plant) : Reading := match p with | .heat => sensorReading hr | .cool => sensorReading cr
  let result (p : Plant) : CircuitMeter × CycleResult := s.circuitCycle p (supply p) (ret p)
  let e' := e.accrue (result .heat).2 (result .cool).2
  have hmeter (p : Plant) : (s.cycle hs hr cs cr).meters.get p = (result p).1 := by
    rw [State.cycle_meters]
    cases p <;> rfl
  have hown (p : Plant) : e'.own.get p = (e.own.get p).accrue (result p).2 := by cases p <;> rfl
  have hmeterOk (p : Plant) : MeterOk (s.meters.get p) := by
    cases p
    exacts [hok.heat, hok.cool]
  have habsent (p : Plant) (hp : (s.meters.get p).state = .absent) : result p = (s.meters.get p, .nothing) :=
    CircuitMeter.cycle_of_absent hp _ _ _ _ _ _
  obtain ⟨hhold, hrestart, hconversion⟩ := eventKind_iff s.station.supplyMode
    (nextBackupCount s.station.supplyMode s.converter.backupCount) s.converter.state
  rw [State.backupHold_iff hok.backup.1] at hhold hrestart hconversion
  refine ⟨s.cycle hs hr cs cr, e', exec_cycleEvent_of_due hrstn hdue _ _ _ _, ?_, ?_⟩
  · rw [State.cycle_openEntry, he]
    rfl
  intro volume present computes raw difference units reverse
  have hcomputes (p : Plant) : computes p ↔ (result p).1.Computes := by
    rw [← hmeter p]
    rfl
  have hraw (p : Plant) : raw p = (result p).1.raw p := by
    rw [← hmeter p]
    cases p <;> rfl
  have hvolume (p : Plant) (hp : present p) := CircuitMeter.cycle_volume hp p (s.items.pulse.get p) s.items.dtCutoff
    (kind := s.cycleKind) (supply := supply p) (ret := ret p) (hmeterOk p).lifetimes.2
  have hreverse (p : Plant) : reverse p (result p).2.reverse := by
    refine ⟨fun ⟨hp, hc, hv, hneg⟩ => ?_, fun hnot => ?_⟩
    · obtain ⟨-, -, -, hone, -, -⟩ := hvolume p hp
      exact hone ⟨(hcomputes p).mp hc, hv, hraw p ▸ hneg⟩
    · by_cases hp : present p
      · obtain ⟨-, -, -, -, hzero, -⟩ := hvolume p hp
        refine hzero fun ⟨hc, hv, hneg⟩ => hnot ⟨hp, (hcomputes p).mpr hc, hv, ?_⟩
        rw [hraw p]
        exact hneg
      · rw [habsent p (not_not.mp hp)]
        rfl
  have hover (p : Plant) : (result p).2.overrange = true ↔ present p ∧ (s.meters.get p).pulseCounter = 255 := by
    by_cases hp : present p
    · obtain ⟨-, -, -, -, -, hbeyond⟩ := hvolume p hp
      rw [show (result p).2.overrange = _ from hbeyond, decide_eq_true_eq]
      exact (and_iff_right hp).symm
    · rw [habsent p (not_not.mp hp)]
      exact iff_of_false (by simp [CycleResult.nothing]) fun h => hp h.1
  refine ⟨⟨(result .heat).2.reverse, (result .cool).2.reverse, hreverse .heat, hreverse .cool, rfl⟩, ?_, fun p => ?_⟩
  · rw [(State.cycle_flags hs hr cs cr).1, Bool.or_eq_true, Bool.or_eq_true]
    refine or_congr_right ((or_congr (hover .heat) (hover .cool)).trans ⟨?_, ?_⟩)
    · rintro (h | h)
      exacts [⟨_, h⟩, ⟨_, h⟩]
    · rintro ⟨p, h⟩
      cases p
      exacts [.inl h, .inr h]
  intro o o' m m'
  have ho' : o' = o.accrue (result p).2 := hown p
  have hm' : m' = (result p).1 := hmeter p
  by_cases hp : present p
  case neg =>
    have hsame : o' = o := by rw [ho', habsent p (not_not.mp hp), OwnPart.accrue_nothing]
    have hkept : m' = m := by rw [hm', habsent p (not_not.mp hp)]
    rw [hsame]
    exact ⟨rfl, rfl, fun _ => ⟨rfl, hkept⟩, fun h => absurd h hp, fun h => absurd h hp, fun h => absurd h hp,
      fun h => absurd h hp, fun h => absurd h hp, fun h => absurd h hp⟩
  have hunits : units p = energyUnits (volume p) (effectiveDifference s.items.dtCutoff ((result p).1.raw p)) m.residue := by
    rw [← hraw p]
    rfl
  obtain ⟨henergy, hstill⟩ := CircuitMeter.cycle_energy hp p (s.items.pulse.get p) s.items.dtCutoff (kind := s.cycleKind)
    (supply := supply p) (ret := ret p) (hmeterOk p).lifetimes.1
  obtain ⟨htotal, hmetered, hunmetered, -, -, -⟩ := hvolume p hp
  obtain ⟨hpartial, hbeyond, hbackup, hfaulted, hestimated⟩ := CircuitMeter.cycle_flags hp p (s.items.pulse.get p)
    s.items.dtCutoff (kind := s.cycleKind) (supply := supply p) (ret := ret p) o
  rw [ho', hm', hunits]
  refine ⟨rfl, hpartial, fun h => absurd hp h, fun _ hc hv => ?_, fun _ hnot => ?_, fun _ => htotal, fun _ hc => ?_,
    fun _ hc => ?_, fun _ => ⟨hbeyond, ?_, hfaulted, ?_⟩⟩
  · obtain ⟨hgain, hresidue, hlifetime⟩ := henergy ((hcomputes p).mp hc) hv
    exact ⟨congrArg (o.energy + ·) hgain, hresidue, hlifetime⟩
  · obtain ⟨hgain, hresidue, hlifetime⟩ := hstill (mt (And.imp_left (hcomputes p).mpr) hnot)
    exact ⟨congrArg (o.energy + ·) hgain, hresidue, hlifetime⟩
  · obtain ⟨hgain, hnone⟩ := hmetered ((hcomputes p).mp hc)
    exact ⟨congrArg (o.metered + ·) hgain, congrArg (o.unmetered + ·) hnone⟩
  · obtain ⟨hnone, hgain⟩ := hunmetered (mt (hcomputes p).mpr hc)
    exact ⟨congrArg (o.metered + ·) hnone, congrArg (o.unmetered + ·) hgain⟩
  · exact hbackup.trans (or_congr_right hhold)
  · refine hestimated.trans (or_congr_right (or_congr_right (or_congr ?_ (or_congr ?_ ?_))))
    · exact (and_congr_left' hconversion).trans and_assoc
    · exact (and_congr_left' hrestart).trans and_assoc
    · rw [hraw p]
      exact and_congr_left' (hcomputes p).symm

end Sys2Proof.Machine
